-- ==== Sys2Proof/Word.lean ====
section
/-! DEFINITION. The word types of the block (00_scope R11, R13): fixed widths, bit 0 least significant. -/

namespace Sys2Proof

/-- A 64-bit command word (R70). -/
abbrev CmdWord := BitVec 64

/-- An i32 register or the DATA of a response (R11, R77). -/
abbrev Word32 := BitVec 32

/-- An i16 register or a u16 duty value (R11). -/
abbrev Word16 := BitVec 16

/-- A response status (R77). -/
abbrev Byte := BitVec 8

end Sys2Proof
end

