-- ==== Sys2Proof/Config.lean ====
section
/-! DEFINITION. The elaboration parameters of an instance (00_scope R7 to R12): configuration, not state. -/

namespace Sys2Proof

/-- `MODE`, the actuation strategy (R7). The variant set is closed. -/
inductive Mode where
  | singlePwm
  | dualPwm
deriving DecidableEq, Repr

/-- The parameters of one instance. Values outside R7 to R10 are no instance of this hardware
(R12), so the bounds are part of the record and an invalid one cannot be built. -/
structure Params where
  /-- `MODE` (R7). -/
  mode : Mode
  /-- `MAX_DUTY`, written M (R8). -/
  maxDuty : Nat
  /-- `ENCODER_PRESENT` (R9). -/
  encoderPresent : Bool
  /-- `PPR_INIT`; 0 where the integrator gives none (R10). -/
  pprInit : Nat := 0
  maxDuty_pos : 1 ≤ maxDuty
  maxDuty_le : maxDuty ≤ 32767
  pprInit_le : pprInit ≤ 32767
deriving DecidableEq, Repr

/-- Elaborating an instance: refused when a parameter is out of range (R12). The integrator may leave
out PPR_INIT, which is then 0 (R10). -/
def Params.build (mode : Mode) (maxDuty : Nat) (encoderPresent : Bool) (pprInit : Nat := 0) :
    Option Params :=
  if h : 1 ≤ maxDuty ∧ maxDuty ≤ 32767 ∧ pprInit ≤ 32767 then
    some ⟨mode, maxDuty, encoderPresent, pprInit, h.1, h.2.1, h.2.2⟩
  else none

/-- The identity string `MCF1-<mode>[E]` (R3). -/
def Params.identity (p : Params) : String :=
  "MCF1-" ++ (match p.mode with | .singlePwm => "S" | .dualPwm => "D")
    ++ (if p.encoderPresent then "E" else "")

/-- The instance `State.reset` stands for: MCF1-DE, MAX_DUTY = 1000, PPR_INIT = 0.
DESIGN CHOICE (unsafe; log entry 1): the spec leaves the parameters OPEN (D37); every meaning and
every step works at whatever `Params` the state carries. -/
def Params.mcf1DE : Params :=
  ⟨.dualPwm, 1000, true, 0, by decide, by decide, by decide⟩

end Sys2Proof
end

