-- ==== Sys2Proof/Syntax.lean ====
section
/-! DEFINITION. The instructions: the 19 commands of 30_encoding R74 and the edge event of R81. -/

namespace Sys2Proof

/-- One constructor per row of spec/opcode_table.json. Operands are the integers and booleans that
R73 assembles from ARG; `wellFormed` gives their ranges. -/
inductive Instr where
  /-- `initialize` (R131). Spelt with an s, since the other spelling is a Lean command word. -/
  | initialise
  /-- `enable` (R132). -/
  | enable
  /-- `disable` (R133). -/
  | disable
  /-- `set_speed v`, an i16 (R151). -/
  | setSpeed (v : Int)
  /-- `set_direction fwd` (R152). -/
  | setDirection (fwd : Bool)
  /-- `stop` (R153). -/
  | stop
  /-- `brake` (R154). -/
  | brake
  /-- `set_ppr p`, an i16 (R201). -/
  | setPpr (p : Int)
  /-- `check_ppr` (R202). -/
  | checkPpr
  /-- `get_pulse_count` (R204). -/
  | getPulseCount
  /-- `set_target t`, an i32 (R205). -/
  | setTarget (t : Int)
  /-- `clear_target` (R206). -/
  | clearTarget
  /-- `check_target` (R207). -/
  | checkTarget
  /-- `get_speed` (R181). -/
  | getSpeed
  /-- `get_direction` (R182). -/
  | getDirection
  /-- `get_current` (R183). -/
  | getCurrent
  /-- `get_voltage` (R184). -/
  | getVoltage
  /-- `get_temperature` (R185). -/
  | getTemperature
  /-- `get_fault_status` (R186). -/
  | getFaultStatus
  /-- An edge event on the edge port; `p` is true when A leads B (R81, R203). -/
  | edge (p : Bool)
deriving DecidableEq, Repr

/-- A transaction on one of the two input ports (R50): a command word, or an edge's phase bit. -/
inductive PortWord where
  | cmd (w : CmdWord)
  | edge (p : BitVec 1)
deriving DecidableEq, Repr

/-- The assembler line of an instruction: mnemonic, then the operand in decimal or `fwd`/`rev` (R82). -/
def Instr.asm : Instr → String
  | .initialise => "initialize"
  | .enable => "enable"
  | .disable => "disable"
  | .setSpeed v => "set_speed " ++ toString v
  | .setDirection fwd => "set_direction " ++ (if fwd then "fwd" else "rev")
  | .stop => "stop"
  | .brake => "brake"
  | .setPpr p => "set_ppr " ++ toString p
  | .checkPpr => "check_ppr"
  | .getPulseCount => "get_pulse_count"
  | .setTarget t => "set_target " ++ toString t
  | .clearTarget => "clear_target"
  | .checkTarget => "check_target"
  | .getSpeed => "get_speed"
  | .getDirection => "get_direction"
  | .getCurrent => "get_current"
  | .getVoltage => "get_voltage"
  | .getTemperature => "get_temperature"
  | .getFaultStatus => "get_fault_status"
  | .edge p => "edge " ++ (if p then "fwd" else "rev")

end Sys2Proof
end

