-- ==== Sys2Proof/WellFormed.lean ====
section
/-! DEFINITION. Well-formed instructions: the operand is one its class can carry (30_encoding R73). -/

namespace Sys2Proof

/-- The range of an i16 operand (R73, class S16). -/
abbrev fitsI16 (v : Int) : Prop := -32768 ≤ v ∧ v ≤ 32767

/-- The range of an i32 operand (R73, class S32). -/
abbrev fitsI32 (v : Int) : Prop := -2147483648 ≤ v ∧ v ≤ 2147483647

/-- S16 operands are i16, S32 operands are i32; classes NONE and BOOL and the phase bit have no
ill-formed operand (R73, R81). -/
def Instr.wellFormed : Instr → Bool
  | .setSpeed v => decide (fitsI16 v)
  | .setPpr p => decide (fitsI16 p)
  | .setTarget t => decide (fitsI32 t)
  | .setDirection _ | .edge _ => true
  | .initialise | .enable | .disable | .stop | .brake => true
  | .checkPpr | .getPulseCount | .clearTarget | .checkTarget => true
  | .getSpeed | .getDirection | .getCurrent | .getVoltage | .getTemperature => true
  | .getFaultStatus => true

end Sys2Proof
end

