-- ==== Sys2Proof/Decode.lean ====
section
/-! DEFINITION. The decoder, total on all 2^64 command words and both phase bits (30_encoding R71 to
R76, R81), the encoder from the same fields, and `decodeTableWord` for the host. -/

namespace Sys2Proof

/-- Why a word is no legal command. The response is the same for each (R72, R73, R75). -/
inductive Illegal where
  /-- RSV ≠ 0 (R72). -/
  | reservedBits
  /-- OP is not in the map of R74 (R75). -/
  | undefinedOp
  /-- ARG is not legal for the opcode's operand class (R73). -/
  | badArgument
deriving DecidableEq, Repr

/-- OP, bits 63 to 56 (R71). -/
def opField (w : CmdWord) : BitVec 8 := w.extractLsb' 56 8

/-- RSV, bits 55 to 32 (R71). -/
def rsvField (w : CmdWord) : BitVec 24 := w.extractLsb' 32 24

/-- ARG, bits 31 to 0 (R71). -/
def argField (w : CmdWord) : Word32 := w.extractLsb' 0 32

/-- Class NONE: ARG must be 0 (R73). -/
def operandNone (arg : Word32) (i : Instr) : Except Illegal Instr :=
  if arg = 0 then .ok i else .error .badArgument

/-- Class S16: ARG must be the sign extension of its low half, read as a signed integer (R73). -/
def operandS16 (arg : Word32) (mk : Int → Instr) : Except Illegal Instr :=
  if arg = (arg.extractLsb' 0 16).signExtend 32 then .ok (mk (arg.extractLsb' 0 16).toInt)
  else .error .badArgument

/-- Class BOOL: ARG[31:1] must be 0; ARG[0] is the operand (R73). -/
def operandBool (arg : Word32) (mk : Bool → Instr) : Except Illegal Instr :=
  if arg.extractLsb' 1 31 = 0 then .ok (mk (arg.getLsbD 0)) else .error .badArgument

/-- Class S32: any ARG, read as a signed integer (R73). -/
def operandS32 (arg : Word32) (mk : Int → Instr) : Except Illegal Instr :=
  .ok (mk arg.toInt)

/-- The opcode map with each opcode's operand class (R74). -/
def decodeOp (op : Nat) (arg : Word32) : Except Illegal Instr :=
  match op with
  | 0x01 => operandNone arg .initialise
  | 0x02 => operandNone arg .enable
  | 0x03 => operandNone arg .disable
  | 0x04 => operandS16 arg .setSpeed
  | 0x05 => operandBool arg .setDirection
  | 0x06 => operandNone arg .stop
  | 0x07 => operandNone arg .brake
  | 0x10 => operandS16 arg .setPpr
  | 0x11 => operandNone arg .checkPpr
  | 0x12 => operandNone arg .getPulseCount
  | 0x13 => operandS32 arg .setTarget
  | 0x14 => operandNone arg .clearTarget
  | 0x15 => operandNone arg .checkTarget
  | 0x20 => operandNone arg .getSpeed
  | 0x21 => operandNone arg .getDirection
  | 0x22 => operandNone arg .getCurrent
  | 0x23 => operandNone arg .getVoltage
  | 0x24 => operandNone arg .getTemperature
  | 0x25 => operandNone arg .getFaultStatus
  | _ => .error .undefinedOp

/-- `Decode(w)` of R76. -/
def decode (w : CmdWord) : Except Illegal Instr :=
  if rsvField w = 0 then decodeOp (opField w).toNat (argField w) else .error .reservedBits

/-- The phase bit of an edge event: 1 is A leading B (R81). -/
def decodeEdge (p : BitVec 1) : Instr := .edge (p == 1#1)

/-- What a port transaction stands for. Every edge bit is an edge event (R81). -/
def decodePort : PortWord → Except Illegal Instr
  | .cmd w => decode w
  | .edge p => .ok (decodeEdge p)

/-- A command word from its fields, RSV = 0 (R71). -/
def cmdWord (op : BitVec 8) (arg : Word32) : CmdWord := op ++ 0#24 ++ arg

/-- An operand of class S16 or S32 as ARG: two's complement in 32 bits (R73). -/
def argInt (v : Int) : Word32 := BitVec.ofInt 32 v

/-- An operand of class BOOL as ARG (R73). -/
def argBool (b : Bool) : Word32 := if b then 1 else 0

/-- The transaction that carries an instruction: one command word (R71, R74), or one edge (R81). -/
def encode : Instr → PortWord
  | .initialise => .cmd (cmdWord 0x01 0)
  | .enable => .cmd (cmdWord 0x02 0)
  | .disable => .cmd (cmdWord 0x03 0)
  | .setSpeed v => .cmd (cmdWord 0x04 (argInt v))
  | .setDirection fwd => .cmd (cmdWord 0x05 (argBool fwd))
  | .stop => .cmd (cmdWord 0x06 0)
  | .brake => .cmd (cmdWord 0x07 0)
  | .setPpr p => .cmd (cmdWord 0x10 (argInt p))
  | .checkPpr => .cmd (cmdWord 0x11 0)
  | .getPulseCount => .cmd (cmdWord 0x12 0)
  | .setTarget t => .cmd (cmdWord 0x13 (argInt t))
  | .clearTarget => .cmd (cmdWord 0x14 0)
  | .checkTarget => .cmd (cmdWord 0x15 0)
  | .getSpeed => .cmd (cmdWord 0x20 0)
  | .getDirection => .cmd (cmdWord 0x21 0)
  | .getCurrent => .cmd (cmdWord 0x22 0)
  | .getVoltage => .cmd (cmdWord 0x23 0)
  | .getTemperature => .cmd (cmdWord 0x24 0)
  | .getFaultStatus => .cmd (cmdWord 0x25 0)
  | .edge p => .edge (if p then 1 else 0)

/-- The port transaction of an instruction given as a number of the opcode table: a row of at most
8 bits is an edge event, whose one bit is P (opcode_table.json row edge); any other is a command
word (log entry 10). None where a padding bit of an edge is set. -/
def portOfTableWord (nbits w : Nat) : Option PortWord :=
  if nbits ≤ 8 then (if w < 2 then some (.edge (BitVec.ofNat 1 w)) else none)
  else some (.cmd (BitVec.ofNat 64 w))

/-- The instruction the decoder reads from a word of the opcode table. -/
def decodeTableWord (nbits w : Nat) : Option Instr :=
  match portOfTableWord nbits w with
  | some x => (match decodePort x with
    | .ok i => some i
    | .error _ => none)
  | none => none

end Sys2Proof
end

