-- ==== Sys2Proof/Machine/State.lean ====
section
/-! DEFINITION. The state of an instance (10_state R20 to R36), the transactions of its channels
(20_memory, 30_encoding), the inputs of the world around it, and the state after reset (70_reset R270). -/

namespace Sys2Proof.Machine

open Sys2Proof

/-- `LSTATE` (R23). All four values are legal; the encoding 00, 01, 10, 11 is not observable. -/
inductive LState where
  | uninit
  | init
  | enabled
  | disabled
deriving DecidableEq, Repr

/-- `FAULT_STATUS`, an 8-bit register hard-wired to 0x00 (R26): it has one value, so nothing can be
written to it. -/
inductive HardwiredZero where
  | zero
deriving DecidableEq, Repr

/-- A shadow register's content: UNKNOWN, or the last value acknowledged with Ok (R28). -/
inductive Shadow (α : Type) where
  | unknown
  | known (v : α)
deriving DecidableEq, Repr

/-- The enable lines (R29). -/
inductive EnLine where
  | en0
  | en1
deriving DecidableEq, Repr

/-- The PWM channels (R29). -/
inductive Channel where
  | pwm0
  | pwm1
deriving DecidableEq, Repr

/-- The capability targets (R64, R79). -/
inductive Target where
  | line (e : EnLine)
  | channel (c : Channel)
deriving DecidableEq, Repr

/-- The shadow registers SH[t] (R28). -/
structure Shadows where
  en0 : Shadow Bool
  en1 : Shadow Bool
  pwm0 : Shadow Word16
  pwm1 : Shadow Word16
deriving DecidableEq, Repr

/-- One capability write (t, v) (R54, R55, R79): a level for an enable line, a duty for a channel. -/
inductive Write where
  | level (e : EnLine) (high : Bool)
  | duty (c : Channel) (v : Word16)
deriving DecidableEq, Repr

/-- An adapter's answer to a capability write (R56, R80). -/
inductive CapResponse where
  | ok
  | err (code : Word16)
deriving DecidableEq, Repr

/-- One entry of the write trace: (t, v, r) (R56). -/
structure Transaction where
  write : Write
  answer : CapResponse
deriving DecidableEq, Repr

/-- The status names of R78. -/
inductive Status where
  | ok
  | hardwareError
  | invalidState
  | invalidArgument
  | unsupportedOperation
  | illegalCommand
deriving DecidableEq, Repr

/-- A response: STATUS and DATA (R77). -/
structure Response where
  status : Status
  data : Word32
deriving DecidableEq, Repr

/-- The registers a command with a write plan commits when its whole plan was answered Ok (R134). -/
inductive Commit where
  /-- ENABLE, DISABLE: LSTATE (R132, R133). -/
  | enter (l : LState)
  /-- SET_SPEED, SET_DIRECTION, STOP: LAST_SPEED and LAST_DIR (R151 to R153). -/
  | motion (speed : Word16) (dir : Bool)
  /-- BRAKE: no register (R154). -/
  | nothing
deriving DecidableEq, Repr

/-- The first failed write of a command: its target and the adapter's code (R113). -/
structure Failure where
  target : Target
  code : Word16
deriving DecidableEq, Repr

/-- A command in execution (R33): what it commits, the writes not yet answered (the first is the one
outstanding), and its first failure, after which the writes left are the unwind's (R114). -/
structure Job where
  commit : Commit
  todo : List Write
  failed : Option Failure
deriving DecidableEq, Repr

/-- What the world does while a command executes: an adapter's answer to the outstanding write
(R56), an edge event (R60, R211), or a reset (R272). -/
inductive Draw where
  | answer (r : CapResponse)
  | edge (p : Bool)
  | reset
deriving DecidableEq, Repr

/-- What the world sends the block: a transaction on the command or the edge port, a reset request,
or a command word followed by a reset that falls before the command's first write and its response,
so that the command is abandoned (R50, R272, R283). -/
inductive Input where
  | port (x : PortWord)
  | reset
  | abandoned (w : CmdWord)
deriving DecidableEq, Repr

/-- Why the machine stops. -/
inductive Fault where
  /-- Raised by `step` alone: a command is in execution (BUSY = 1), its adapter never answers and no
  other input is left, so no step is enabled (R66, R285). Safe: the block of the spec is stuck too. -/
  | noEnabledStep
deriving DecidableEq, Repr

/-- Why a step has no meaning. -/
inductive Refusal where
  /-- Raised by `exec` for an instruction not modelled yet; no arm of `exec` does. Safe. -/
  | notModelled (mnemonic : String)
deriving DecidableEq, Repr

/-- The state of an instance. -/
structure State where
  /-- The elaboration parameters (R7 to R10): configuration, which no step changes. -/
  params : Params
  /-- `LSTATE` (R23). -/
  lstate : LState
  /-- `LAST_SPEED` (R24). -/
  lastSpeed : Word16
  /-- `LAST_DIR`, true = forward (R25). -/
  lastDir : Bool
  /-- `FAULT_STATUS` (R26). -/
  faultStatus : HardwiredZero
  /-- `SH[t]` (R28). -/
  sh : Shadows
  /-- `PPR` (R30). -/
  ppr : Word16
  /-- `PULSE_COUNT` (R31). -/
  pulseCount : Word32
  /-- `TGT_VALID` (R32). -/
  tgtValid : Bool
  /-- `TARGET` (R32). -/
  target : Word32
  /-- The command in execution; `BUSY` is whether there is one (R33). -/
  inFlight : Option Job
  /-- Input: what the world sends, the earliest first (R283). -/
  inbox : List Input
  /-- Input: what the world does while commands execute, the earliest first (R56, R60, R272). -/
  draws : List Draw
  /-- The write trace, the earliest first (R56). -/
  trace : List Transaction
  /-- The responses given, the earliest first (R77, R285). -/
  responses : List Response
deriving DecidableEq, Repr

/-- The reset state of an instance with an empty trace (R270, R284). The encoder registers of an
instance without encoder do not exist and hold 0 here (R200; log entry 7). -/
def State.resetOf (p : Params) : State where
  params := p
  lstate := .uninit
  lastSpeed := 0
  lastDir := false
  faultStatus := .zero
  sh := ⟨.unknown, .unknown, .unknown, .unknown⟩
  ppr := if p.encoderPresent then BitVec.ofNat 16 p.pprInit else 0
  pulseCount := 0
  tgtValid := false
  target := 0
  inFlight := none
  inbox := []
  draws := []
  trace := []
  responses := []

/-- The machine right after reset, for the instance of log entry 1. -/
def State.reset : State := State.resetOf Params.mcf1DE

end Sys2Proof.Machine
end

