-- ==== Sys2Proof/Machine/Flags.lean ====
section
/-! DEFINITION. The block has no condition codes (10_state R22): a command's outcome is its response.
Here are the encodings of the response, of the channel transactions and of LSTATE (R23, R77 to R80). -/

namespace Sys2Proof.Machine

open Sys2Proof

/-- The STATUS byte (R78). -/
def Status.code : Status → Byte
  | .ok => 0x00
  | .hardwareError => 0x01
  | .invalidState => 0x02
  | .invalidArgument => 0x03
  | .unsupportedOperation => 0x04
  | .illegalCommand => 0x05

/-- A response as the 40 bits its port carries (R53), of the two fields of R77. STATUS above DATA is a
DESIGN CHOICE (log entry 19): the spec gives the fields no bit positions. -/
def Response.bits (r : Response) : BitVec 40 := r.status.code ++ r.data

/-- The encoding of LSTATE (R23). -/
def LState.code : LState → BitVec 2
  | .uninit => 0b00
  | .init => 0b01
  | .enabled => 0b10
  | .disabled => 0b11

/-- The value a read of FAULT_STATUS gives (R26). -/
def HardwiredZero.value : HardwiredZero → Byte
  | .zero => 0x00

/-- The target id T (R64, R79). -/
def Target.id : Target → BitVec 2
  | .line .en0 => 0
  | .line .en1 => 1
  | .channel .pwm0 => 2
  | .channel .pwm1 => 3

/-- The target of a write. -/
def Write.target : Write → Target
  | .level e _ => .line e
  | .duty c _ => .channel c

/-- The value V of a write on its channel (R79). -/
def Write.value : Write → Word16
  | .level _ high => if high then 1 else 0
  | .duty _ v => v

/-- The answer carried by the bits ERR and CODE; CODE is ignored when ERR = 0 (R80). -/
def CapResponse.ofBits (err : BitVec 1) (code : Word16) : CapResponse :=
  if err = 0 then .ok else .err code

/-- DATA of a HardwareError: 0x00, the target id, the adapter's code (R78, R113). -/
def failureData (f : Failure) : Word32 := 0#8 ++ f.target.id.zeroExtend 8 ++ f.code

/-- `zext_32(b2u(b))` (R13, R78). -/
def boolData (b : Bool) : Word32 := if b then 1 else 0

/-- The binary32 encoding of +0.0 (R78, R183; log entry 12). -/
def floatZero : Word32 := 0x00000000

end Sys2Proof.Machine
end

