-- ==== Sys2Proof/Machine/Operands.lean ====
section
/-! DEFINITION. Operand arithmetic: the pwm_direction_mapper (40_actuation R100 to R102) and the
saturation of the pulse counter (44_encoder R209). Operand assembly from ARG stands in Decode. -/

namespace Sys2Proof.Machine

open Sys2Proof

/-- `Clamp(v)` for the ceiling `m` = MAX_DUTY, on integers (R100). -/
def clamp (m : Nat) (v : Int) : Int := max (-(m : Int)) (min (m : Int) v)

/-- `Dir(c)`: true is forward (R101). -/
def dir (c : Int) : Bool := decide (0 ≤ c)

/-- `Mag(c)`, the duty of the driving channel (R102). -/
def mag (c : Int) : Word16 := BitVec.ofNat 16 c.natAbs

/-- A clamped speed as an i16 register value (R151). -/
def speedReg (c : Int) : Word16 := BitVec.ofInt 16 c

/-- `c` of SET_DIRECTION: the magnitude of the last speed with the operand's sign (R152). -/
def signedSpeed (lastSpeed : Word16) (fwd : Bool) : Int :=
  if fwd then (lastSpeed.toInt.natAbs : Int) else -(lastSpeed.toInt.natAbs : Int)

/-- `sat32(x)` (R209). -/
def sat32 (x : Int) : Int := max (-2147483648) (min 2147483647 x)

/-- The pulse counter after one edge: +1 when A leads B, else -1, saturating (R203). -/
def countAfter (count : Word32) (p : Bool) : Word32 :=
  BitVec.ofInt 32 (sat32 (count.toInt + (if p then 1 else -1)))

end Sys2Proof.Machine
end

