-- ==== Sys2Proof/Machine/Mux.lean ====
section
/-! DEFINITION. The h_bridge_actuation_mux: the outputs present (10_state R29), the write plans
(40_actuation R103 to R112) and the unwind's writes (R114). -/

namespace Sys2Proof.Machine

open Sys2Proof

/-- `ENS`, the enable lines present, in index order (R29). -/
def ens : Mode → List EnLine
  | .singlePwm => [.en0]
  | .dualPwm => [.en0, .en1]

/-- The PWM channels present, in index order (R29). -/
def channels : Mode → List Channel
  | .singlePwm => [.pwm0]
  | .dualPwm => [.pwm0, .pwm1]

/-- The operations the mux plans for (R103); `apply` is given a clamped speed. -/
inductive MuxOp where
  | apply (c : Int)
  | coast
  | brake
deriving DecidableEq, Repr

/-- The coast plan (R105, R109). -/
def coastPlan : Mode → List Write
  | .singlePwm => [.level .en0 false, .duty .pwm0 0]
  | .dualPwm => [.level .en0 false, .level .en1 false, .duty .pwm0 0, .duty .pwm1 0]

/-- The plan of `Apply(c)` for c ≠ 0: zero the idle channel, drive the other, then assert the
enables (R104, R107, R108). -/
def drivePlan (m : Mode) (c : Int) : List Write :=
  match m with
  | .singlePwm => [.duty .pwm0 (mag c), .level .en0 true]
  | .dualPwm =>
    if 0 < c then [.duty .pwm1 0, .duty .pwm0 (mag c), .level .en0 true, .level .en1 true]
    else [.duty .pwm0 0, .duty .pwm1 (mag c), .level .en0 true, .level .en1 true]

/-- The brake plan, where the mode has one (R106, R110). -/
def brakePlan (p : Params) : Option (List Write) :=
  match p.mode with
  | .singlePwm => none
  | .dualPwm =>
    some [.duty .pwm0 (BitVec.ofNat 16 p.maxDuty), .duty .pwm1 (BitVec.ofNat 16 p.maxDuty),
      .level .en0 true, .level .en1 true]

/-- `Plan(MODE, op)`; none is `Unsupported` (R103). Zero speed is coast (R112). -/
def plan (p : Params) : MuxOp → Option (List Write)
  | .apply c => some (if c = 0 then coastPlan p.mode else drivePlan p.mode c)
  | .coast => some (coastPlan p.mode)
  | .brake => brakePlan p

/-- The writes of `Unwind` after the failed write `w`: every enable line present is deasserted, but a
failed deassertion is not issued again (R114, R115). -/
def unwindWrites (m : Mode) (w : Write) : List Write :=
  ((ens m).map fun e => Write.level e false).filter fun u => u ≠ w

end Sys2Proof.Machine
end

