-- ==== Sys2Proof/Machine/Ops.lean ====
section
/-! DEFINITION. The named operations the meanings share: register updates, capability writes and the
execution of a write plan with its unwind (20_memory R56, 40_actuation R113, R114), the response and
the error response (00_scope R16; the block has no traps, 60_exceptions R241), edge events
(44_encoder R203) and reset (70_reset R270 to R272). -/

namespace Sys2Proof.Machine

open Sys2Proof

/-- `BUSY` (R33). -/
def State.busy (s : State) : Bool := s.inFlight.isSome

/-- `LSTATE <- l` (R23). -/
def State.setLstate (s : State) (l : LState) : State := { s with lstate := l }

/-- `LAST_SPEED <- v`, `LAST_DIR <- d` (R24, R25). -/
def State.setMotion (s : State) (v : Word16) (d : Bool) : State :=
  { s with lastSpeed := v, lastDir := d }

/-- `PPR <- v` (R30). -/
def State.setPpr (s : State) (v : Word16) : State := { s with ppr := v }

/-- `PULSE_COUNT <- v` (R31). -/
def State.setPulse (s : State) (v : Word32) : State := { s with pulseCount := v }

/-- `TGT_VALID <- b`, `TARGET <- v` (R32). -/
def State.setTarget (s : State) (b : Bool) (v : Word32) : State :=
  { s with tgtValid := b, target := v }

/-- The read of FAULT_STATUS (R26). -/
def State.readFaultStatus (s : State) : Byte := s.faultStatus.value

/-- The inputs left for later commands. -/
def State.setDraws (s : State) (ds : List Draw) : State := { s with draws := ds }

/-- The inputs left on the ports. -/
def State.setInbox (s : State) (is : List Input) : State := { s with inbox := is }

/-- A command is in execution: BUSY = 1 (R33). -/
def State.setJob (s : State) (job : Job) : State := { s with inFlight := some job }

/-- What the shadow of a target holds after an answer: the value on Ok, UNKNOWN on Err (R56). -/
def shadowAfter {α : Type} (v : α) : CapResponse → Shadow α
  | .ok => .known v
  | .err _ => .unknown

/-- The shadow registers after a write and its answer (R28, R56). -/
def Shadows.record (sh : Shadows) (w : Write) (r : CapResponse) : Shadows :=
  match w with
  | .level .en0 v => { sh with en0 := shadowAfter v r }
  | .level .en1 v => { sh with en1 := shadowAfter v r }
  | .duty .pwm0 v => { sh with pwm0 := shadowAfter v r }
  | .duty .pwm1 v => { sh with pwm1 := shadowAfter v r }

/-- `SH[e]` of an enable line. -/
def Shadows.line (sh : Shadows) : EnLine → Shadow Bool
  | .en0 => sh.en0
  | .en1 => sh.en1

/-- `SH[c]` of a channel. -/
def Shadows.channel (sh : Shadows) : Channel → Shadow Word16
  | .pwm0 => sh.pwm0
  | .pwm1 => sh.pwm1

/-- The effect of `CapWrite(t, v)` answered `r`: the shadow register and the trace (R56). -/
def State.capWrite (s : State) (w : Write) (r : CapResponse) : State :=
  { s with sh := s.sh.record w r, trace := s.trace ++ [⟨w, r⟩] }

/-- `respond(status, data)`: ends the command, BUSY = 0 (R16, R33). -/
def State.respond (s : State) (st : Status) (d : Word32) : State :=
  { s with inFlight := none, responses := s.responses ++ [⟨st, d⟩] }

/-- `raise <Status>(0)`: an error response with no commit of any register (R16, R134, R241). -/
def State.raise (s : State) (st : Status) : State := s.respond st 0

/-- The commit of a command whose whole plan succeeded (R134). -/
def State.commit (s : State) : Commit → State
  | .enter l => s.setLstate l
  | .motion v d => s.setMotion v d
  | .nothing => s

/-- The response step of a command with a plan: the commit and OK, or HardwareError with the first
failure and no commit (R113, R134, R243). -/
def State.finish (s : State) (job : Job) : State :=
  match job.failed with
  | none => (s.commit job.commit).respond .ok 0
  | some f => s.respond .hardwareError (failureData f)

/-- An edge event: the counter moves by one, saturating; ignored without encoder (R200, R203). -/
def State.countEdge (s : State) (p : Bool) : State :=
  if s.params.encoderPresent then s.setPulse (countAfter s.pulseCount p) else s

/-- Reset: every register takes its reset value, a command in execution is abandoned without a
response, nothing is written (R270 to R272). What was observed so far and what the world still
sends are no registers of the block and stay (DEDUCED, log entry 4). -/
def State.resetEvent (s : State) : State :=
  { State.resetOf s.params with
    inbox := s.inbox, draws := s.draws, trace := s.trace, responses := s.responses }

/-- The command in execution once its outstanding write `w` is answered: a first Err replaces the
rest of the plan by the unwind (R113, R114); the answers of the unwind are not reported (R247). -/
def Job.answered (job : Job) (m : Mode) (w : Write) (rest : List Write) (r : CapResponse) : Job :=
  match job.failed, r with
  | none, .err code => ⟨job.commit, unwindWrites m w, some ⟨w.target, code⟩⟩
  | _, _ => { job with todo := rest }

/-- Runs a command in execution on what the world does, one atomic step of R60 at a time: an edge is
counted at once (R211), a reset abandons the command (R272), an answer settles the outstanding write
(R56, R57), and when no write is left the command commits and responds. A write that is never
answered leaves the command in execution, BUSY = 1 (R66). -/
def runJob : List Draw → Job → State → State
  | [], job, s =>
    match job.todo with
    | [] => (s.setDraws []).finish job
    | _ :: _ => (s.setDraws []).setJob job
  | .edge p :: ds, job, s => runJob ds job (s.countEdge p)
  | .reset :: ds, _, s => (s.setDraws ds).resetEvent
  | .answer r :: ds, job, s =>
    match job.todo with
    | [] => (s.setDraws (.answer r :: ds)).finish job
    | w :: rest => runJob ds (job.answered s.params.mode w rest r) (s.capWrite w r)

/-- `Exec(Plan(MODE, op))`, then the commit `k` (R113, R134); `Unsupported` is answered
UnsupportedOperation before any write (R106, R242). -/
def State.actuate (s : State) (op : MuxOp) (k : Commit) : State :=
  match plan s.params op with
  | none => s.raise .unsupportedOperation
  | some writes => runJob s.draws ⟨k, writes, none⟩ s

/-- The command port: while BUSY = 1 a word is no command, neither executed nor answered (R275);
else the command is executed by `f`. -/
def onCommandPort (s : State) (f : State → State) : Host.Outcome State Fault Refusal :=
  .next (if s.busy then s else f s)

/-- The presence gate of the encoder commands (R200). -/
def State.withEncoder (s : State) (f : State → State) : State :=
  if s.params.encoderPresent then f s else s.raise .unsupportedOperation

/-- The state guard of the motion commands (R150). -/
def State.whenEnabled (s : State) (f : State → State) : State :=
  if s.lstate = .enabled then f s else s.raise .invalidState

end Sys2Proof.Machine
end

