-- ==== Sys2Proof/Machine/Encoder.lean ====
section
/-! DEFINITION. The encoder_pulse_accumulator (44_encoder R200 to R211). No lifecycle guard (R208). -/

namespace Sys2Proof.Machine

open Sys2Proof

/-- SET_PPR (R201): positive operands only; DATA says whether the value changed. -/
def execSetPpr (p : Int) (s : State) : Host.Outcome State Fault Refusal :=
  onCommandPort s fun s => s.withEncoder fun s =>
    if p ≤ 0 then s.raise .invalidArgument
    else (s.setPpr (BitVec.ofInt 16 p)).respond .ok (boolData (decide (p ≠ s.ppr.toInt)))

/-- CHECK_PPR (R202). -/
def execCheckPpr (s : State) : Host.Outcome State Fault Refusal :=
  onCommandPort s fun s => s.withEncoder fun s =>
    if s.ppr.toInt ≤ 0 then s.raise .invalidArgument else s.respond .ok 0

/-- GET_PULSE_COUNT (R204). -/
def execGetPulseCount (s : State) : Host.Outcome State Fault Refusal :=
  onCommandPort s fun s => s.withEncoder fun s => s.respond .ok s.pulseCount

/-- SET_TARGET (R205). -/
def execSetTarget (t : Int) (s : State) : Host.Outcome State Fault Refusal :=
  onCommandPort s fun s => s.withEncoder fun s =>
    (s.setTarget true (BitVec.ofInt 32 t)).respond .ok 0

/-- CLEAR_TARGET (R206). -/
def execClearTarget (s : State) : Host.Outcome State Fault Refusal :=
  onCommandPort s fun s => s.withEncoder fun s => (s.setTarget false 0).respond .ok 0

/-- CHECK_TARGET (R207): a target is set and the count equals it. -/
def execCheckTarget (s : State) : Host.Outcome State Fault Refusal :=
  onCommandPort s fun s => s.withEncoder fun s =>
    s.respond .ok (boolData (s.tgtValid && decide (s.pulseCount.toInt = s.target.toInt)))

/-- The edge event (R203): applied whatever LSTATE and BUSY are; no response. -/
def execEdge (p : Bool) (s : State) : Host.Outcome State Fault Refusal :=
  .next (s.countEdge p)

end Sys2Proof.Machine
end

