-- ==== Sys2Proof/Machine/Lifecycle.lean ====
section
/-! DEFINITION. The lifecycle commands (41_lifecycle R130 to R136). -/

namespace Sys2Proof.Machine

open Sys2Proof

/-- INITIALIZE (R131): UNINIT becomes INIT, elsewhere a no-op; always OK, no write. -/
def execInitialise (s : State) : Host.Outcome State Fault Refusal :=
  onCommandPort s fun s =>
    (if s.lstate = .uninit then s.setLstate .init else s).respond .ok 0

/-- ENABLE (R132): coast, then LSTATE <- ENABLED, from INIT or DISABLED. -/
def execEnable (s : State) : Host.Outcome State Fault Refusal :=
  onCommandPort s fun s =>
    if s.lstate = .init ∨ s.lstate = .disabled then s.actuate .coast (.enter .enabled)
    else s.raise .invalidState

/-- DISABLE (R133): coast, then LSTATE <- DISABLED, from every state but UNINIT. -/
def execDisable (s : State) : Host.Outcome State Fault Refusal :=
  onCommandPort s fun s =>
    if s.lstate = .uninit then s.raise .invalidState
    else s.actuate .coast (.enter .disabled)

end Sys2Proof.Machine
end

