-- ==== Sys2Proof/Machine/Motion.lean ====
section
/-! DEFINITION. The motion commands (42_motion R150 to R156). -/

namespace Sys2Proof.Machine

open Sys2Proof

/-- SET_SPEED (R151). -/
def execSetSpeed (v : Int) (s : State) : Host.Outcome State Fault Refusal :=
  onCommandPort s fun s => s.whenEnabled fun s =>
    let c := clamp s.params.maxDuty v
    s.actuate (.apply c) (.motion (speedReg c) (dir c))

/-- SET_DIRECTION (R152): the last speed's magnitude again, with the operand's sign. -/
def execSetDirection (fwd : Bool) (s : State) : Host.Outcome State Fault Refusal :=
  onCommandPort s fun s => s.whenEnabled fun s =>
    let c := signedSpeed s.lastSpeed fwd
    s.actuate (.apply c) (.motion (speedReg c) fwd)

/-- STOP (R153). -/
def execStop (s : State) : Host.Outcome State Fault Refusal :=
  onCommandPort s fun s => s.whenEnabled fun s => s.actuate .coast (.motion 0 true)

/-- BRAKE (R154): no register is committed. -/
def execBrake (s : State) : Host.Outcome State Fault Refusal :=
  onCommandPort s fun s => s.whenEnabled fun s => s.actuate .brake .nothing

end Sys2Proof.Machine
end

