-- ==== Sys2Proof/Machine/Query.lean ====
section
/-! DEFINITION. The query commands (43_queries R180 to R187): valid in every lifecycle state, always OK. -/

namespace Sys2Proof.Machine

open Sys2Proof

/-- GET_SPEED (R181). -/
def execGetSpeed (s : State) : Host.Outcome State Fault Refusal :=
  onCommandPort s fun s => s.respond .ok (s.lastSpeed.signExtend 32)

/-- GET_DIRECTION (R182). -/
def execGetDirection (s : State) : Host.Outcome State Fault Refusal :=
  onCommandPort s fun s => s.respond .ok (boolData s.lastDir)

/-- GET_CURRENT (R183). -/
def execGetCurrent (s : State) : Host.Outcome State Fault Refusal :=
  onCommandPort s fun s => s.respond .ok floatZero

/-- GET_VOLTAGE (R184). -/
def execGetVoltage (s : State) : Host.Outcome State Fault Refusal :=
  onCommandPort s fun s => s.respond .ok floatZero

/-- GET_TEMPERATURE (R185). -/
def execGetTemperature (s : State) : Host.Outcome State Fault Refusal :=
  onCommandPort s fun s => s.respond .ok floatZero

/-- GET_FAULT_STATUS (R186). -/
def execGetFaultStatus (s : State) : Host.Outcome State Fault Refusal :=
  onCommandPort s fun s => s.respond .ok (s.readFaultStatus.zeroExtend 32)

end Sys2Proof.Machine
end

