-- ==== Sys2Proof/Machine/Dispatch.lean ====
section
/-! DEFINITION. The dispatch: one arm per constructor of Instr. -/

namespace Sys2Proof.Machine

open Sys2Proof

def exec (i : Instr) (s : State) : Host.Outcome State Fault Refusal :=
  match i with
  | .initialise => Sys2Proof.Machine.execInitialise s
  | .enable => Sys2Proof.Machine.execEnable s
  | .disable => Sys2Proof.Machine.execDisable s
  | .setSpeed v => Sys2Proof.Machine.execSetSpeed v s
  | .setDirection fwd => Sys2Proof.Machine.execSetDirection fwd s
  | .stop => Sys2Proof.Machine.execStop s
  | .brake => Sys2Proof.Machine.execBrake s
  | .setPpr p => Sys2Proof.Machine.execSetPpr p s
  | .checkPpr => Sys2Proof.Machine.execCheckPpr s
  | .getPulseCount => Sys2Proof.Machine.execGetPulseCount s
  | .setTarget t => Sys2Proof.Machine.execSetTarget t s
  | .clearTarget => Sys2Proof.Machine.execClearTarget s
  | .checkTarget => Sys2Proof.Machine.execCheckTarget s
  | .getSpeed => Sys2Proof.Machine.execGetSpeed s
  | .getDirection => Sys2Proof.Machine.execGetDirection s
  | .getCurrent => Sys2Proof.Machine.execGetCurrent s
  | .getVoltage => Sys2Proof.Machine.execGetVoltage s
  | .getTemperature => Sys2Proof.Machine.execGetTemperature s
  | .getFaultStatus => Sys2Proof.Machine.execGetFaultStatus s
  | .edge p => Sys2Proof.Machine.execEdge p s

end Sys2Proof.Machine
end

