-- ==== Sys2Proof/Machine/Fetch.lean ====
section
/-! DEFINITION. Where a step takes its work from: the command in execution, or the next input of the
world (20_memory R59, R60, 70_reset R273, R275, R283). There is no program counter (10_state R21). -/

namespace Sys2Proof.Machine

open Sys2Proof

/-- What one step does: run an instruction at a state, or an outcome already settled. -/
inductive Turn where
  | run (i : Instr) (s : State)
  | settled (o : Host.Outcome State Fault Refusal)

/-- An illegal word: IllegalCommand, nothing else changes (R72, R75, R76); none while BUSY (R275). -/
def execIllegal (s : State) : Host.Outcome State Fault Refusal :=
  onCommandPort s fun s => s.raise .illegalCommand

/-- The next input. With none left an idle block waits for a command (R273); a busy one, whose
adapter has not answered, has no enabled step (R66). A command abandoned by a reset before its first
write and its response leaves what the reset alone leaves, for every word (R272). -/
def takeInput (s : State) : Turn :=
  match s.inbox with
  | [] => .settled (if s.busy then .fault .noEnabledStep else .next s)
  | .reset :: rest => .settled (.next (s.setInbox rest).resetEvent)
  | .abandoned _ :: rest => .settled (.next (s.setInbox rest).resetEvent)
  | .port x :: rest =>
    match decodePort x with
    | .ok i => .run i (s.setInbox rest)
    | .error _ => .settled (execIllegal (s.setInbox rest))

/-- The turn of a step: a command in execution goes on where the world lets it (an answer, an edge
or a reset is drawn, or only its response is left); else the next input is taken. -/
def turn (s : State) : Turn :=
  match s.inFlight with
  | some job =>
    if s.draws = [] ∧ job.todo ≠ [] then takeInput s
    else .settled (.next (runJob s.draws job s))
  | none => takeInput s

/-- The transaction of a table word placed as the very next input (log entry 10). -/
def State.placeTableWord (s : State) (nbits w : Nat) : State :=
  match portOfTableWord nbits w with
  | some x => s.setInbox (.port x :: s.inbox)
  | none => s

end Sys2Proof.Machine
end

