-- ==== Sys2Proof/Machine/Step.lean ====
section
/-! DEFINITION. One step of the machine, and the state with a given instruction as the next input. -/

namespace Sys2Proof.Machine

open Sys2Proof

/-- One step: a whole command, an edge event, a reset, or more of a command in execution. -/
def step (s : State) : Host.Outcome State Fault Refusal :=
  match turn s with
  | .run i t => exec i t
  | .settled o => o

/-- `s` with the instruction of a table word placed where `step` takes its next input. -/
def State.withFetchWord (s : State) (nbits w : Nat) : State := s.placeTableWord nbits w

end Sys2Proof.Machine
end

