-- ==== Sys2Proof/Safety.lean ====
section
/-! DEFINITION. The terms claims are stated in: the invariant of 10_state R35, classes of
instructions, the plan a command is accepted with, and shapes of the world's answers. -/

namespace Sys2Proof.Machine

open Sys2Proof

/-! ### Classes of instructions -/

/-- The 19 commands of the command port; the edge event is none (R74, R81). -/
def isCommand : Instr → Bool
  | .edge _ => false
  | .initialise | .enable | .disable | .setSpeed _ | .setDirection _ | .stop | .brake => true
  | .setPpr _ | .checkPpr | .getPulseCount | .setTarget _ | .clearTarget | .checkTarget => true
  | .getSpeed | .getDirection | .getCurrent | .getVoltage | .getTemperature => true
  | .getFaultStatus => true

/-- INITIALIZE, ENABLE, DISABLE (41_lifecycle). -/
def isLifecycle : Instr → Bool
  | .initialise | .enable | .disable => true
  | .setSpeed _ | .setDirection _ | .stop | .brake => false
  | .setPpr _ | .checkPpr | .getPulseCount | .setTarget _ | .clearTarget | .checkTarget => false
  | .getSpeed | .getDirection | .getCurrent | .getVoltage | .getTemperature => false
  | .getFaultStatus | .edge _ => false

/-- SET_SPEED, SET_DIRECTION, STOP, BRAKE (42_motion). -/
def isMotion : Instr → Bool
  | .setSpeed _ | .setDirection _ | .stop | .brake => true
  | .initialise | .enable | .disable => false
  | .setPpr _ | .checkPpr | .getPulseCount | .setTarget _ | .clearTarget | .checkTarget => false
  | .getSpeed | .getDirection | .getCurrent | .getVoltage | .getTemperature => false
  | .getFaultStatus | .edge _ => false

/-- The six queries of 43_queries. -/
def isQuery : Instr → Bool
  | .getSpeed | .getDirection | .getCurrent | .getVoltage | .getTemperature => true
  | .getFaultStatus => true
  | .initialise | .enable | .disable | .setSpeed _ | .setDirection _ | .stop | .brake => false
  | .setPpr _ | .checkPpr | .getPulseCount | .setTarget _ | .clearTarget | .checkTarget => false
  | .edge _ => false

/-- The six encoder commands of 44_encoder (R200). -/
def isEncoderCommand : Instr → Bool
  | .setPpr _ | .checkPpr | .getPulseCount | .setTarget _ | .clearTarget | .checkTarget => true
  | .initialise | .enable | .disable | .setSpeed _ | .setDirection _ | .stop | .brake => false
  | .getSpeed | .getDirection | .getCurrent | .getVoltage | .getTemperature => false
  | .getFaultStatus | .edge _ => false

/-! ### Plans and answers -/

/-- The write plan command `i` executes when it is accepted in `s`; none where it issues no plan
(R130, R150 to R154). -/
def acceptedPlan (i : Instr) (s : State) : Option (List Write) :=
  match i with
  | .enable =>
    if s.lstate = .init ∨ s.lstate = .disabled then plan s.params .coast else none
  | .disable => if s.lstate = .uninit then none else plan s.params .coast
  | .setSpeed v =>
    if s.lstate = .enabled then plan s.params (.apply (clamp s.params.maxDuty v)) else none
  | .setDirection fwd =>
    if s.lstate = .enabled then plan s.params (.apply (signedSpeed s.lastSpeed fwd)) else none
  | .stop => if s.lstate = .enabled then plan s.params .coast else none
  | .brake => if s.lstate = .enabled then plan s.params .brake else none
  | .initialise => none
  | .setPpr _ | .checkPpr | .getPulseCount | .setTarget _ | .clearTarget | .checkTarget => none
  | .getSpeed | .getDirection | .getCurrent | .getVoltage | .getTemperature => none
  | .getFaultStatus | .edge _ => none

/-- `n` writes answered Ok, nothing in between. -/
def answersOk (n : Nat) : List Draw := List.replicate n (.answer .ok)

/-- What is drawn next is an answer, or nothing is: no edge or reset falls before it. -/
def Quiet : List Draw → Bool
  | [] => true
  | .answer _ :: _ => true
  | .edge _ :: _ | .reset :: _ => false

/-- The trace of writes all answered Ok. -/
def okTrace (ws : List Write) : List Transaction := ws.map fun w => ⟨w, .ok⟩

/-- The shadow registers after a list of answered writes (R56). -/
def Shadows.recordAll (sh : Shadows) (xs : List Transaction) : Shadows :=
  xs.foldl (fun sh x => sh.record x.write x.answer) sh

/-- The pulse counter after the edges among `ds`, in arrival order (R203, R211). -/
def countDraws (p : Params) (count : Word32) (ds : List Draw) : Word32 :=
  ds.foldl (fun n d => match d with
    | .edge b => if p.encoderPresent then countAfter n b else n
    | .answer _ | .reset => n) count

/-- Whether a drawn event is an edge. -/
def isEdge : Draw → Bool
  | .edge _ => true
  | .answer _ | .reset => false

/-- The shadow registers after a coast plan answered Ok; outputs the mode lacks keep theirs (R116). -/
def coastShadows (m : Mode) (sh : Shadows) : Shadows :=
  match m with
  | .singlePwm => { sh with en0 := .known false, pwm0 := .known 0 }
  | .dualPwm => ⟨.known false, .known false, .known 0, .known 0⟩

/-- The shadow registers after `Apply(c)` answered Ok (R116). -/
def applyShadows (m : Mode) (c : Int) (sh : Shadows) : Shadows :=
  if c = 0 then coastShadows m sh else
  match m with
  | .singlePwm => { sh with en0 := .known true, pwm0 := .known (BitVec.ofNat 16 c.natAbs) }
  | .dualPwm =>
    if 0 < c then ⟨.known true, .known true, .known (BitVec.ofNat 16 c.natAbs), .known 0⟩
    else ⟨.known true, .known true, .known 0, .known (BitVec.ofNat 16 c.natAbs)⟩

/-- The number of writes of a plan in each mode (R118). -/
def planLength : Mode → Nat
  | .singlePwm => 2
  | .dualPwm => 4

/-- The bound on the capability writes of one command (R118). -/
def writeBound : Mode → Nat
  | .singlePwm => 3
  | .dualPwm => 6

/-- A register set after reset, with the observation and the inputs of `s` (R270 to R272). -/
def afterReset (s : State) (trace : List Transaction) (draws : List Draw) : State :=
  { State.resetOf s.params with
    inbox := s.inbox, draws := draws, trace := trace, responses := s.responses }

/-! ### The invariant -/

/-- A write the instance may issue: a target it has, a duty up to MAX_DUTY (R29, R79). -/
def Write.legal (p : Params) : Write → Prop
  | .level e _ => e ∈ ens p.mode
  | .duty c v => c ∈ channels p.mode ∧ v.toNat ≤ p.maxDuty

/-- What holds of a command in execution: its writes are legal; a lifecycle command asserts no line
and, until a write failed, has deasserted or will deassert every line; a motion command executes in
ENABLED and commits a clamped speed. -/
def Job.Sound (job : Job) (s : State) : Prop :=
  (∀ w ∈ job.todo, w.legal s.params) ∧
  match job.commit with
  | .enter _ =>
    (∀ e, Write.level e true ∉ job.todo) ∧
    (job.failed = none → ∀ e ∈ ens s.params.mode,
      Write.level e false ∈ job.todo ∨ s.sh.line e ≠ .known true)
  | .motion v _ =>
    s.lstate = .enabled ∧ -(s.params.maxDuty : Int) ≤ v.toInt ∧ v.toInt ≤ s.params.maxDuty
  | .nothing => s.lstate = .enabled

/-- The invariant of R35 with what makes it hold inside a command, and: outputs and registers the
instance does not have keep their reset value (log entry 7). -/
structure State.Inv (s : State) : Prop where
  speedBelow : -(s.params.maxDuty : Int) ≤ s.lastSpeed.toInt
  speedAbove : s.lastSpeed.toInt ≤ s.params.maxDuty
  pprNonneg : 0 ≤ s.ppr.toInt
  linesOff : s.lstate ≠ .enabled → ∀ e ∈ ens s.params.mode, s.sh.line e ≠ .known true
  dutyBound : ∀ c v, s.sh.channel c = .known v → v.toNat ≤ s.params.maxDuty
  absentLine : ∀ e, e ∉ ens s.params.mode → s.sh.line e = .unknown
  absentChannel : ∀ c, c ∉ channels s.params.mode → s.sh.channel c = .unknown
  absentEncoder : s.params.encoderPresent = false →
    s.ppr = 0 ∧ s.pulseCount = 0 ∧ s.tgtValid = false ∧ s.target = 0
  jobSound : ∀ job, s.inFlight = some job → job.Sound s

end Sys2Proof.Machine
end

