-- ==== Sys2Proof/Certificates/Slice0/Obligations.lean ====
section
/-! DEFINITION. The statements for the provers. Each docstring names the rules it formalises. A
hypothesis on `draws` or `inbox` says what the adapters answer and what arrives: those lists, and
that a whole command is one step, are the model's form (log entries 2, 3, 10). -/

open Sys2Proof Sys2Proof.Machine

/-! ### Encoding (30_encoding) -/

/-- R71, R73, R74, R76, R81: no bit of an encoding is dropped. -/
def Obligations.DecodeOfEncode : Prop :=
  ∀ i : Instr, i.wellFormed = true → decodePort (encode i) = .ok i

/-- R75: every word is exactly one legal command, or illegal; what decodes is well formed and has
no other encoding. -/
def Obligations.EncodeOfDecode : Prop :=
  ∀ (x : PortWord) (i : Instr), decodePort x = .ok i → i.wellFormed = true ∧ encode i = x

/-- R72, R73, R75, R76: the words the decoder refuses are those with RSV ≠ 0, an undefined OP, or an
ARG illegal for the operand class. -/
def Obligations.IllegalWordsAreExactlyThese : Prop :=
  ∀ w : CmdWord, (∃ e, decode w = .error e) ↔
    (w.extractLsb' 32 24 ≠ 0 ∨
      (w.extractLsb' 56 8).toNat ∉ [1, 2, 3, 4, 5, 6, 7, 16, 17, 18, 19, 20, 21, 32, 33, 34, 35, 36, 37] ∨
      ((w.extractLsb' 56 8).toNat ∈ [1, 2, 3, 6, 7, 17, 18, 20, 21, 32, 33, 34, 35, 36, 37] ∧
        w.extractLsb' 0 32 ≠ 0) ∨
      ((w.extractLsb' 56 8).toNat ∈ [4, 16] ∧
        w.extractLsb' 0 32 ≠ (w.extractLsb' 0 16).signExtend 32) ∨
      ((w.extractLsb' 56 8).toNat = 5 ∧ w.extractLsb' 1 31 ≠ 0))

/-- R85 (the worked encodings) and R86 (the illegal examples: that decoding refuses them). Which of its
three names the decoder gives a refused word is the model's choice (log entry 18). -/
def Obligations.WorkedEncodings : Prop :=
  decode 0x040000000000012C = .ok (.setSpeed 300) ∧
  decode 0x04000000FFFFFED4 = .ok (.setSpeed (-300)) ∧
  decode 0x0500000000000001 = .ok (.setDirection true) ∧
  decode 0x10000000FFFFFFFB = .ok (.setPpr (-5)) ∧
  decode 0x1300000000000003 = .ok (.setTarget 3) ∧
  decode 0x0100000000000000 = .ok .initialise ∧
  decode 0x0000000000000000 = .error .undefinedOp ∧
  decode 0x0400000100000000 = .error .reservedBits ∧
  decode 0x040000000000FED4 = .error .badArgument ∧
  decode 0x0500000000000002 = .error .badArgument ∧
  decode 0x0100000000000001 = .error .badArgument ∧
  decode 0xFF00000000000000 = .error .undefinedOp

/-! ### The step -/

/-- R59, R60, R279: where no command in execution can go on (none is in execution, or its write waits
for an adapter that does not answer yet), the next transaction on a port is the instruction the step
runs, that input being taken off. The input lists are the model's form (log entries 2, 10). -/
def Obligations.StepRunsTheDecodedInstruction : Prop :=
  ∀ (s : State) (x : PortWord) (rest : List Input) (i : Instr),
    (∀ job, s.inFlight = some job → s.draws = [] ∧ job.todo ≠ []) →
    s.inbox = .port x :: rest → decodePort x = .ok i →
    step s = exec i { s with inbox := rest }

/-- The transaction `withFetchWord` places is run by the very next step (the model's form, log
entry 10): a command word of 64 bits, and an edge of one bit. -/
def Obligations.PlacedWordIsRunNext : Prop :=
  ∀ (s : State) (i : Instr), s.busy = false →
    (∀ w : CmdWord, decode w = .ok i → step (s.withFetchWord 64 w.toNat) = exec i s) ∧
    (∀ p : BitVec 1, decodeEdge p = i → step (s.withFetchWord 8 p.toNat) = exec i s)

/-- R72, R75, R76: an illegal word is answered IllegalCommand with DATA 0 and changes nothing else. -/
def Obligations.IllegalWordIsAnsweredIllegalCommand : Prop :=
  ∀ (s : State) (w : CmdWord) (rest : List Input) (e : Illegal),
    s.busy = false → s.inbox = .port (.cmd w) :: rest → decode w = .error e →
    step s = .next { s with
      inbox := rest, responses := s.responses ++ [⟨.illegalCommand, 0⟩] }

/-- R33, R275: while BUSY = 1 no command is executed or answered (a word presented then is dropped:
the model's reading, log entry 8). -/
def Obligations.NoCommandWhileBusy : Prop :=
  ∀ (i : Instr) (s : State), isCommand i = true → s.busy = true → exec i s = .next s

/-- R66: with a write outstanding, no answer and no other input, no step is enabled; that this is a
fault is the model's choice (log entry 9). -/
def Obligations.SilentAdapterLeavesNoEnabledStep : Prop :=
  ∀ (s : State) (job : Job) (w : Write) (ws : List Write),
    s.inFlight = some job → job.todo = w :: ws → s.draws = [] → s.inbox = [] →
    step s = .fault .noEnabledStep

/-- R66: a command whose first write is not answered leaves BUSY = 1, nothing committed and nothing
answered. -/
def Obligations.UnansweredWriteLeavesBusy : Prop :=
  ∀ (i : Instr) (s : State) (ws : List Write),
    s.busy = false → acceptedPlan i s = some ws → s.draws = [] →
    ∃ k : Commit, exec i s = .next { s with inFlight := some ⟨k, ws, none⟩ }

/-- R77, R272, R283: a command gives exactly one response and ends with BUSY = 0, or still waits for
an adapter, or was abandoned by a reset, with no response and every register at its reset value
(what was observed before the reset stays, log entry 4). -/
def Obligations.OneResponseUnlessWaitingOrReset : Prop :=
  ∀ (i : Instr) (s t : State), isCommand i = true → s.busy = false → exec i s = .next t →
    (t.busy = false ∧ ∃ r, t.responses = s.responses ++ [r]) ∨
    (t.busy = true ∧ t.responses = s.responses ∧ t.draws = []) ∨
    (Draw.reset ∈ s.draws ∧ t = afterReset s t.trace t.draws)

/-! ### Reset (70_reset) -/

/-- R270: the registers after reset, for every instance; R284: BUSY = 0, no command in flight, an
empty trace. In an instance without encoder the encoder registers are the model's convention
(log entry 7). -/
def Obligations.ResetState : Prop :=
  ∀ p : Params,
    (State.resetOf p).lstate = .uninit ∧ (State.resetOf p).lastSpeed = 0 ∧
    (State.resetOf p).lastDir = false ∧ (State.resetOf p).readFaultStatus = 0x00 ∧
    (∀ e, (State.resetOf p).sh.line e = .unknown) ∧
    (∀ c, (State.resetOf p).sh.channel c = .unknown) ∧
    (p.encoderPresent = true → (State.resetOf p).ppr.toInt = p.pprInit) ∧
    (State.resetOf p).pulseCount = 0 ∧ (State.resetOf p).tgtValid = false ∧
    (State.resetOf p).target = 0 ∧ (State.resetOf p).busy = false ∧
    (State.resetOf p).trace = [] ∧ (State.resetOf p).params = p

/-- R270, R271, R272: a reset, with no command in execution or with one that waits for an adapter,
sets every register to its reset value, answers nothing and issues no capability write; the trace so
far stays as observed (the model's reading, log entry 4). The same for a command word abandoned by a
reset before its first write and its response. -/
def Obligations.ResetStepWritesNothing : Prop :=
  ∀ (s : State) (rest : List Input),
    (∀ job, s.inFlight = some job → s.draws = [] ∧ job.todo ≠ []) →
    (s.inbox = .reset :: rest ∨ ∃ w, s.inbox = .abandoned w :: rest) →
    step s = .next { State.resetOf s.params with
      inbox := rest, draws := s.draws, trace := s.trace, responses := s.responses }

/-- R272: a reset after `k` answered writes of a command abandons it: no response, no commit, every
register at its reset value; the writes already answered stay in the trace (log entry 4). -/
def Obligations.ResetAbandonsTheCommand : Prop :=
  ∀ (i : Instr) (s : State) (ws : List Write) (k : Nat) (rest : List Draw),
    s.busy = false → acceptedPlan i s = some ws → k ≤ ws.length →
    s.draws = answersOk k ++ .reset :: rest →
    exec i s = .next (afterReset s (s.trace ++ okTrace (ws.take k)) rest)

/-! ### The mapper and the mux (40_actuation) -/

/-- R100, R101, R102. -/
def Obligations.MapperClampsAndSplits : Prop :=
  ∀ (m : Nat) (v : Int), 1 ≤ m → m ≤ 32767 →
    clamp m v = max (-(m : Int)) (min (m : Int) v) ∧
    -(m : Int) ≤ clamp m v ∧ clamp m v ≤ m ∧
    (-(m : Int) ≤ v → v ≤ m → clamp m v = v) ∧
    (dir (clamp m v) = true ↔ 0 ≤ clamp m v) ∧
    ((mag (clamp m v)).toNat : Int) = |clamp m v| ∧ (mag (clamp m v)).toNat ≤ m

/-- R104 to R110, R112: the plan of every mode and operation, for a speed the clamp can give. -/
def Obligations.PlanOfEveryModeAndOperation : Prop :=
  ∀ (p : Params) (c : Int), -(p.maxDuty : Int) ≤ c → c ≤ p.maxDuty →
    (p.mode = .singlePwm →
      plan p .coast = some [.level .en0 false, .duty .pwm0 0] ∧
      plan p .brake = none ∧
      (c ≠ 0 → plan p (.apply c) =
        some [.duty .pwm0 (BitVec.ofInt 16 |c|), .level .en0 true])) ∧
    (p.mode = .dualPwm →
      plan p .coast =
        some [.level .en0 false, .level .en1 false, .duty .pwm0 0, .duty .pwm1 0] ∧
      plan p .brake = some [.duty .pwm0 (BitVec.ofNat 16 p.maxDuty),
        .duty .pwm1 (BitVec.ofNat 16 p.maxDuty), .level .en0 true, .level .en1 true] ∧
      (0 < c → plan p (.apply c) = some [.duty .pwm1 0, .duty .pwm0 (BitVec.ofInt 16 c),
        .level .en0 true, .level .en1 true]) ∧
      (c < 0 → plan p (.apply c) = some [.duty .pwm0 0, .duty .pwm1 (BitVec.ofInt 16 (-c)),
        .level .en0 true, .level .en1 true])) ∧
    plan p (.apply 0) = plan p .coast

/-- R111: a DUAL_PWM plan asserts both enables when it leaves a channel with a nonzero duty, and
deasserts both when it leaves both at 0. -/
def Obligations.EnablePolicyOfDualPwm : Prop :=
  ∀ (p : Params) (op : MuxOp) (ws : List Write), p.mode = .dualPwm → plan p op = some ws →
    (∀ c, op = .apply c → -(p.maxDuty : Int) ≤ c ∧ c ≤ p.maxDuty) →
    ∀ e, ((∃ c v, Write.duty c v ∈ ws ∧ v ≠ 0) →
        Write.level e true ∈ ws ∧ Write.level e false ∉ ws) ∧
      ((∀ c v, Write.duty c v ∈ ws → v = 0) →
        Write.level e false ∈ ws ∧ Write.level e true ∉ ws)

/-- R103 (a), DUAL_PWM: while a nonzero speed is applied, once a write was answered Ok the channels
never both hold a nonzero duty, whatever they held before. -/
def Obligations.DrivingNeverLeavesBothChannelsOn : Prop :=
  ∀ (p : Params) (c : Int) (ws : List Write) (k : Nat) (sh : Shadows) (a b : Word16),
    p.mode = .dualPwm → c ≠ 0 → plan p (.apply c) = some ws → 1 ≤ k →
    (sh.recordAll (okTrace (ws.take k))).pwm0 = .known a →
    (sh.recordAll (okTrace (ws.take k))).pwm1 = .known b → a = 0 ∨ b = 0

/-! ### Lifecycle commands (41_lifecycle) -/

/-- R131. -/
def Obligations.InitializeResult : Prop :=
  ∀ s : State, s.busy = false →
    exec .initialise s = .next { s with
      lstate := if s.lstate = .uninit then .init else s.lstate,
      responses := s.responses ++ [⟨.ok, 0⟩] }

/-- R132: ENABLE from INIT or DISABLED, every coast write answered Ok. -/
def Obligations.EnableSucceeds : Prop :=
  ∀ (s : State) (rest : List Draw), s.busy = false →
    (s.lstate = .init ∨ s.lstate = .disabled) →
    s.draws = answersOk (planLength s.params.mode) ++ rest → Quiet rest = true →
    exec .enable s = .next { s with
      lstate := .enabled, sh := coastShadows s.params.mode s.sh, draws := rest,
      trace := s.trace ++ okTrace (coastPlan s.params.mode),
      responses := s.responses ++ [⟨.ok, 0⟩] }

/-- R133: DISABLE from INIT, ENABLED or DISABLED, every coast write answered Ok. -/
def Obligations.DisableSucceeds : Prop :=
  ∀ (s : State) (rest : List Draw), s.busy = false → s.lstate ≠ .uninit →
    s.draws = answersOk (planLength s.params.mode) ++ rest → Quiet rest = true →
    exec .disable s = .next { s with
      lstate := .disabled, sh := coastShadows s.params.mode s.sh, draws := rest,
      trace := s.trace ++ okTrace (coastPlan s.params.mode),
      responses := s.responses ++ [⟨.ok, 0⟩] }

/-- R135: ENABLE and DISABLE from a state that forbids them complete with InvalidState, no write. -/
def Obligations.LifecycleStateGuard : Prop :=
  ∀ s : State, s.busy = false →
    ((s.lstate = .uninit ∨ s.lstate = .enabled) →
      exec .enable s = .next { s with responses := s.responses ++ [⟨.invalidState, 0⟩] }) ∧
    (s.lstate = .uninit →
      exec .disable s = .next { s with responses := s.responses ++ [⟨.invalidState, 0⟩] })

/-- R136, with the frame of the lifecycle commands: unless a reset abandons them they never write
LAST_SPEED, LAST_DIR, FAULT_STATUS, PPR, TGT_VALID or TARGET, and PULSE_COUNT only moves by the
edges that arrive meanwhile. -/
def Obligations.LifecycleFrame : Prop :=
  ∀ (i : Instr) (s t : State), isLifecycle i = true → Draw.reset ∉ s.draws →
    exec i s = .next t →
    t.params = s.params ∧ t.lastSpeed = s.lastSpeed ∧ t.lastDir = s.lastDir ∧
    t.faultStatus = s.faultStatus ∧ t.ppr = s.ppr ∧ t.tgtValid = s.tgtValid ∧
    t.target = s.target ∧ t.inbox = s.inbox ∧
    ∃ used, s.draws = used ++ t.draws ∧
      t.pulseCount = countDraws s.params s.pulseCount used

/-! ### Motion commands (42_motion) -/

/-- R151: SET_SPEED in ENABLED, every write answered Ok. -/
def Obligations.SetSpeedSucceeds : Prop :=
  ∀ (s : State) (v : Int) (rest : List Draw), s.busy = false → s.lstate = .enabled →
    s.draws = answersOk (planLength s.params.mode) ++ rest → Quiet rest = true →
    ∃ ws, plan s.params (.apply (clamp s.params.maxDuty v)) = some ws ∧
    exec (.setSpeed v) s = .next { s with
      lastSpeed := BitVec.ofInt 16 (clamp s.params.maxDuty v),
      lastDir := decide (0 ≤ clamp s.params.maxDuty v),
      sh := applyShadows s.params.mode (clamp s.params.maxDuty v) s.sh, draws := rest,
      trace := s.trace ++ okTrace ws, responses := s.responses ++ [⟨.ok, 0⟩] }

/-- R152: SET_DIRECTION in ENABLED, every write answered Ok. -/
def Obligations.SetDirectionSucceeds : Prop :=
  ∀ (s : State) (fwd : Bool) (rest : List Draw), s.busy = false → s.lstate = .enabled →
    s.draws = answersOk (planLength s.params.mode) ++ rest → Quiet rest = true →
    ∃ c ws, c = (if fwd then |s.lastSpeed.toInt| else -|s.lastSpeed.toInt|) ∧
    plan s.params (.apply c) = some ws ∧
    exec (.setDirection fwd) s = .next { s with
      lastSpeed := BitVec.ofInt 16 c, lastDir := fwd,
      sh := applyShadows s.params.mode c s.sh, draws := rest,
      trace := s.trace ++ okTrace ws, responses := s.responses ++ [⟨.ok, 0⟩] }

/-- R153: STOP in ENABLED, every write answered Ok. -/
def Obligations.StopSucceeds : Prop :=
  ∀ (s : State) (rest : List Draw), s.busy = false → s.lstate = .enabled →
    s.draws = answersOk (planLength s.params.mode) ++ rest → Quiet rest = true →
    exec .stop s = .next { s with
      lastSpeed := 0, lastDir := true, sh := coastShadows s.params.mode s.sh, draws := rest,
      trace := s.trace ++ okTrace (coastPlan s.params.mode),
      responses := s.responses ++ [⟨.ok, 0⟩] }

/-- R154: BRAKE in ENABLED: in DUAL_PWM, every write answered Ok, both channels at MAX_DUTY and both
enables asserted, no register committed; in SINGLE_PWM UnsupportedOperation and no write. -/
def Obligations.BrakeResult : Prop :=
  ∀ s : State, s.busy = false → s.lstate = .enabled →
    (s.params.mode = .dualPwm → ∀ rest : List Draw,
      s.draws = answersOk 4 ++ rest → Quiet rest = true →
      exec .brake s = .next { s with
        sh := ⟨.known true, .known true, .known (BitVec.ofNat 16 s.params.maxDuty),
          .known (BitVec.ofNat 16 s.params.maxDuty)⟩,
        draws := rest,
        trace := s.trace ++ okTrace [.duty .pwm0 (BitVec.ofNat 16 s.params.maxDuty),
          .duty .pwm1 (BitVec.ofNat 16 s.params.maxDuty), .level .en0 true, .level .en1 true],
        responses := s.responses ++ [⟨.ok, 0⟩] }) ∧
    (s.params.mode = .singlePwm →
      exec .brake s = .next { s with
        responses := s.responses ++ [⟨.unsupportedOperation, 0⟩] })

/-- R150: outside ENABLED the motion commands complete with InvalidState, in either mode; no
capability write, no register changed. -/
def Obligations.MotionStateGuard : Prop :=
  ∀ (i : Instr) (s : State), isMotion i = true → s.busy = false → s.lstate ≠ .enabled →
    exec i s = .next { s with responses := s.responses ++ [⟨.invalidState, 0⟩] }

/-- R153: STOP is SET_SPEED with v = 0, whatever the adapters answer. -/
def Obligations.StopIsSetSpeedZero : Prop :=
  ∀ s : State, exec .stop s = exec (.setSpeed 0) s

/-- R100, R151: a speed beyond the ceiling behaves as the ceiling, whatever the adapters answer. -/
def Obligations.OverrangeSpeedIsTheCeiling : Prop :=
  ∀ (s : State) (v : Int),
    ((s.params.maxDuty : Int) ≤ v → exec (.setSpeed v) s = exec (.setSpeed s.params.maxDuty) s) ∧
    (v ≤ -(s.params.maxDuty : Int) →
      exec (.setSpeed v) s = exec (.setSpeed (-(s.params.maxDuty : Int))) s)

/-- R278: in SINGLE_PWM a speed and its negative drive the same outputs, whatever the adapters
answer. -/
def Obligations.SinglePwmDoesNotReverse : Prop :=
  ∀ (s t u : State) (v : Int), s.params.mode = .singlePwm →
    exec (.setSpeed v) s = .next t → exec (.setSpeed (-v)) s = .next u →
    t.trace = u.trace ∧ t.sh = u.sh

/-- R156, with the frame of the motion commands: unless a reset abandons them they never change
LSTATE, FAULT_STATUS, PPR, TGT_VALID or TARGET, BRAKE changes neither LAST_SPEED nor LAST_DIR, and
PULSE_COUNT only moves by the edges that arrive meanwhile. -/
def Obligations.MotionFrame : Prop :=
  ∀ (i : Instr) (s t : State), isMotion i = true → Draw.reset ∉ s.draws →
    exec i s = .next t →
    t.params = s.params ∧ t.lstate = s.lstate ∧ t.faultStatus = s.faultStatus ∧
    t.ppr = s.ppr ∧ t.tgtValid = s.tgtValid ∧ t.target = s.target ∧ t.inbox = s.inbox ∧
    (i = .brake → t.lastSpeed = s.lastSpeed ∧ t.lastDir = s.lastDir) ∧
    ∃ used, s.draws = used ++ t.draws ∧
      t.pulseCount = countDraws s.params s.pulseCount used

/-! ### Failing writes and errors (40_actuation R113 to R118, 60_exceptions) -/

/-- R113, R114, R115, R244: the first Err ends the plan; the unwind follows, its answers `us` ignored;
the response is HardwareError with {0x00, target, code} and no register but SH is committed. -/
def Obligations.FailedWriteUnwinds : Prop :=
  ∀ (i : Instr) (s : State) (pre post : List Write) (w : Write) (code : Word16)
    (us : List CapResponse) (rest : List Draw),
    s.busy = false → acceptedPlan i s = some (pre ++ w :: post) →
    us.length = (unwindWrites s.params.mode w).length → Quiet rest = true →
    s.draws = answersOk pre.length ++ .answer (.err code) :: (us.map .answer ++ rest) →
    ∃ xs, xs = okTrace pre ++ ⟨w, .err code⟩ ::
        List.zipWith Transaction.mk
          (((ens s.params.mode).map fun e => Write.level e false).filter fun u => u ≠ w) us ∧
    exec i s = .next { s with
      sh := s.sh.recordAll xs, draws := rest, trace := s.trace ++ xs,
      responses := s.responses ++
        [⟨.hardwareError, 0#8 ++ w.target.id.zeroExtend 8 ++ code⟩] }

/-- R117: after a HardwareError no enable line of the instance is known to be asserted, whatever the
adapters answered and whatever arrived meanwhile. -/
def Obligations.NoLineKnownAssertedAfterHardwareError : Prop :=
  ∀ (i : Instr) (s t : State) (d : Word32), s.busy = false → exec i s = .next t →
    t.responses = s.responses ++ [⟨.hardwareError, d⟩] →
    ∀ e ∈ ens s.params.mode, t.sh.line e ≠ .known true

/-- R134, R241: a command that completes with an error changes no register but SH, apart from the
edges counted meanwhile. -/
def Obligations.ErrorsCommitNothing : Prop :=
  ∀ (i : Instr) (s t : State) (r : Response), s.busy = false → exec i s = .next t →
    t.responses = s.responses ++ [r] → r.status ≠ .ok →
    t.lstate = s.lstate ∧ t.lastSpeed = s.lastSpeed ∧ t.lastDir = s.lastDir ∧
    t.faultStatus = s.faultStatus ∧ t.ppr = s.ppr ∧ t.tgtValid = s.tgtValid ∧
    t.target = s.target ∧
    ∃ used, s.draws = used ++ t.draws ∧
      t.pulseCount = countDraws s.params s.pulseCount used

/-- R242: a command refused with IllegalCommand, InvalidState, UnsupportedOperation or
InvalidArgument issues no capability write; nothing but its response is new, and DATA is 0 (R77). -/
def Obligations.RefusalsComeBeforeAnyWrite : Prop :=
  ∀ (i : Instr) (s t : State) (r : Response), s.busy = false → exec i s = .next t →
    t.responses = s.responses ++ [r] → r.status ≠ .ok → r.status ≠ .hardwareError →
    r.data = 0 ∧ t = { s with responses := s.responses ++ [r] }

/-- R118, R280: at most 3 capability writes in SINGLE_PWM and 6 in DUAL_PWM, whatever the adapters
answer and whatever arrives meanwhile. -/
def Obligations.BoundedWritesPerCommand : Prop :=
  ∀ (i : Instr) (s t : State), s.busy = false → exec i s = .next t →
    ∃ xs, t.trace = s.trace ++ xs ∧ xs.length ≤ writeBound s.params.mode

/-- R77, R180, R280: commands without a write plan issue no capability write and draw nothing. -/
def Obligations.QueriesAndEncoderCommandsWriteNothing : Prop :=
  ∀ (i : Instr) (s t : State), (isQuery i = true ∨ isEncoderCommand i = true) →
    exec i s = .next t →
    t.trace = s.trace ∧ t.sh = s.sh ∧ t.draws = s.draws ∧ t.lstate = s.lstate ∧
    t.lastSpeed = s.lastSpeed ∧ t.lastDir = s.lastDir ∧ t.faultStatus = s.faultStatus ∧
    t.pulseCount = s.pulseCount ∧ t.inFlight = s.inFlight ∧ t.params = s.params ∧
    t.inbox = s.inbox ∧
    (isQuery i = true → t.ppr = s.ppr ∧ t.tgtValid = s.tgtValid ∧ t.target = s.target)

/-- R23, R248: LSTATE changes by INITIALIZE, ENABLE, DISABLE and reset only. -/
def Obligations.OnlyLifecycleCommandsChangeLstate : Prop :=
  ∀ (i : Instr) (s t : State), isLifecycle i = false → Draw.reset ∉ s.draws →
    exec i s = .next t → t.lstate = s.lstate

/-! ### Queries (43_queries) -/

/-- R181. -/
def Obligations.GetSpeedResult : Prop :=
  ∀ s : State, s.busy = false →
    exec .getSpeed s = .next { s with
      responses := s.responses ++ [⟨.ok, s.lastSpeed.signExtend 32⟩] }

/-- R182. -/
def Obligations.GetDirectionResult : Prop :=
  ∀ s : State, s.busy = false →
    exec .getDirection s = .next { s with
      responses := s.responses ++ [⟨.ok, if s.lastDir then 1 else 0⟩] }

/-- R183 to R186: the four constants, in every state. -/
def Obligations.SensorQueriesAnswerZero : Prop :=
  ∀ (i : Instr) (s : State), i ∈ [.getCurrent, .getVoltage, .getTemperature, .getFaultStatus] →
    s.busy = false →
    exec i s = .next { s with responses := s.responses ++ [⟨.ok, 0x00000000⟩] }

/-- V1, R151, R181, R182: after a SET_SPEED within the range, GET_SPEED reads it back. -/
def Obligations.GetSpeedReadsTheSpeedBack : Prop :=
  ∀ (s t : State) (v : Int), s.busy = false → s.lstate = .enabled →
    -(s.params.maxDuty : Int) ≤ v → v ≤ s.params.maxDuty →
    exec (.setSpeed v) s = .next t → t.responses = s.responses ++ [⟨.ok, 0⟩] →
    exec .getSpeed t = .next { t with
      responses := t.responses ++ [⟨.ok, BitVec.ofInt 32 v⟩] } ∧
    exec .getDirection t = .next { t with
      responses := t.responses ++ [⟨.ok, if 0 ≤ v then 1 else 0⟩] }

/-! ### Encoder (44_encoder) -/

/-- R200: without encoder every encoder command is UnsupportedOperation, before its argument is
checked (R243), and an edge is ignored. -/
def Obligations.NoEncoderGate : Prop :=
  ∀ (i : Instr) (s : State), s.params.encoderPresent = false →
    (isEncoderCommand i = true → s.busy = false →
      exec i s = .next { s with
        responses := s.responses ++ [⟨.unsupportedOperation, 0⟩] }) ∧
    (∀ p, i = .edge p → exec i s = .next s)

/-- R201: every i16 operand. -/
def Obligations.SetPprResult : Prop :=
  ∀ (s : State) (p : Int), s.busy = false → s.params.encoderPresent = true →
    -32768 ≤ p → p ≤ 32767 →
    (p ≤ 0 → exec (.setPpr p) s = .next { s with
      responses := s.responses ++ [⟨.invalidArgument, 0⟩] }) ∧
    (0 < p → ∃ q : Word16, q.toInt = p ∧ exec (.setPpr p) s = .next { s with
      ppr := q,
      responses := s.responses ++ [⟨.ok, if p = s.ppr.toInt then 0 else 1⟩] })

/-- R202. -/
def Obligations.CheckPprResult : Prop :=
  ∀ s : State, s.busy = false → s.params.encoderPresent = true →
    exec .checkPpr s = .next { s with
      responses := s.responses ++
        [⟨if s.ppr.toInt ≤ 0 then .invalidArgument else .ok, 0⟩] }

/-- R204. -/
def Obligations.GetPulseCountResult : Prop :=
  ∀ s : State, s.busy = false → s.params.encoderPresent = true →
    exec .getPulseCount s = .next { s with
      responses := s.responses ++ [⟨.ok, s.pulseCount⟩] }

/-- R205, R206: SET_TARGET for every i32 operand, and CLEAR_TARGET. -/
def Obligations.TargetCommandsResult : Prop :=
  ∀ (s : State) (v : Int), s.busy = false → s.params.encoderPresent = true →
    -2147483648 ≤ v → v ≤ 2147483647 →
    (∃ q : Word32, q.toInt = v ∧ exec (.setTarget v) s = .next { s with
      tgtValid := true, target := q, responses := s.responses ++ [⟨.ok, 0⟩] }) ∧
    exec .clearTarget s = .next { s with
      tgtValid := false, target := 0, responses := s.responses ++ [⟨.ok, 0⟩] }

/-- R207. -/
def Obligations.CheckTargetResult : Prop :=
  ∀ s : State, s.busy = false → s.params.encoderPresent = true →
    exec .checkTarget s = .next { s with
      responses := s.responses ++
        [⟨.ok, if s.tgtValid = true ∧ s.pulseCount.toInt = s.target.toInt then 1 else 0⟩] }

/-- R203, R209: an edge moves PULSE_COUNT by one, saturating, whatever LSTATE and BUSY are, and
changes nothing else. -/
def Obligations.EdgeCountsSaturating : Prop :=
  ∀ (s : State) (p : Bool), s.params.encoderPresent = true →
    ∃ n : Word32, exec (.edge p) s = .next { s with pulseCount := n } ∧
      n.toInt = max (-2147483648) (min 2147483647 (s.pulseCount.toInt + (if p then 1 else -1)))

/-- R208: what an encoder command or an edge does is independent of the lifecycle state. -/
def Obligations.EncoderIgnoresLifecycle : Prop :=
  ∀ (i : Instr) (s t : State) (l : LState),
    (isEncoderCommand i = true ∨ isCommand i = false) → exec i s = .next t →
    exec i { s with lstate := l } = .next { t with lstate := l }

/-- R210: no count and no target rule reads PPR. -/
def Obligations.CountAndTargetIgnorePpr : Prop :=
  ∀ (i : Instr) (s t : State) (q : Word16),
    (i ∈ [.getPulseCount, .clearTarget, .checkTarget] ∨ (∃ v, i = .setTarget v) ∨
      (∃ p, i = .edge p)) → exec i s = .next t →
    exec i { s with ppr := q } = .next { t with ppr := q }

/-! ### Rules of the whole machine -/

/-- R60, R211: the edges that fall inside a command change nothing of it but PULSE_COUNT: taking all
of them out gives the same command, response and trace. -/
def Obligations.EdgesDoNotDisturbACommand : Prop :=
  ∀ (i : Instr) (s t : State), exec i s = .next t →
    ∃ u, exec i { s with draws := s.draws.filter fun d => !isEdge d } = .next u ∧
      { u with pulseCount := t.pulseCount, draws := t.draws } = t

/-- R28: no command reads a shadow register: with other shadow contents everything but SH comes out
the same. -/
def Obligations.NoCommandReadsShadows : Prop :=
  ∀ (i : Instr) (s t : State) (sh : Shadows), exec i s = .next t →
    ∃ sh', exec i { s with sh := sh } = .next { t with sh := sh' }

/-- R35 with what makes it hold inside a command: every step keeps the invariant. Its clauses about
absent outputs and absent encoder registers are the model's convention (log entry 7). -/
def Obligations.StepKeepsInvariant : Prop :=
  ∀ s t : State, s.Inv → step s = .next t → t.Inv

/-- R35: the reset state of every instance meets the invariant. -/
def Obligations.ResetMeetsInvariant : Prop :=
  ∀ p : Params, (State.resetOf p).Inv

/-- R35 (c): no write of level 1 to an enable line is issued while LSTATE ≠ ENABLED. -/
def Obligations.NoAssertionOutsideEnabled : Prop :=
  ∀ s t : State, s.Inv → s.lstate ≠ .enabled → step s = .next t →
    ∃ xs, t.trace = s.trace ++ xs ∧ ∀ x ∈ xs, ∀ e, x.write ≠ .level e true

/-- R29, R79: every write a step issues goes to a target the instance has, with a duty of at most
MAX_DUTY. -/
def Obligations.EveryWriteIsLegal : Prop :=
  ∀ s t : State, s.Inv → step s = .next t →
    ∃ xs, t.trace = s.trace ++ xs ∧ ∀ x ∈ xs, x.write.legal s.params

/-- R6, R36: no step changes the elaboration parameters. -/
def Obligations.ParametersNeverChange : Prop :=
  ∀ s t : State, step s = .next t → t.params = s.params
end

