-- ==== Sys2Proof/Laws/State.lean ====
section
/-! SUPPORT. The fields of the state after each update: one lemma per field per update, true by
definition, so that no later proof unfolds a record update. -/

namespace Sys2Proof.Machine

open Sys2Proof

@[simp] theorem State.setLstate_params (s : State) (l : LState) :
    (s.setLstate l).params = s.params := rfl
@[simp] theorem State.setLstate_lstate (s : State) (l : LState) :
    (s.setLstate l).lstate = l := rfl
@[simp] theorem State.setLstate_lastSpeed (s : State) (l : LState) :
    (s.setLstate l).lastSpeed = s.lastSpeed := rfl
@[simp] theorem State.setLstate_lastDir (s : State) (l : LState) :
    (s.setLstate l).lastDir = s.lastDir := rfl
@[simp] theorem State.setLstate_faultStatus (s : State) (l : LState) :
    (s.setLstate l).faultStatus = s.faultStatus := rfl
@[simp] theorem State.setLstate_sh (s : State) (l : LState) :
    (s.setLstate l).sh = s.sh := rfl
@[simp] theorem State.setLstate_ppr (s : State) (l : LState) :
    (s.setLstate l).ppr = s.ppr := rfl
@[simp] theorem State.setLstate_pulseCount (s : State) (l : LState) :
    (s.setLstate l).pulseCount = s.pulseCount := rfl
@[simp] theorem State.setLstate_tgtValid (s : State) (l : LState) :
    (s.setLstate l).tgtValid = s.tgtValid := rfl
@[simp] theorem State.setLstate_target (s : State) (l : LState) :
    (s.setLstate l).target = s.target := rfl
@[simp] theorem State.setLstate_inFlight (s : State) (l : LState) :
    (s.setLstate l).inFlight = s.inFlight := rfl
@[simp] theorem State.setLstate_inbox (s : State) (l : LState) :
    (s.setLstate l).inbox = s.inbox := rfl
@[simp] theorem State.setLstate_draws (s : State) (l : LState) :
    (s.setLstate l).draws = s.draws := rfl
@[simp] theorem State.setLstate_trace (s : State) (l : LState) :
    (s.setLstate l).trace = s.trace := rfl
@[simp] theorem State.setLstate_responses (s : State) (l : LState) :
    (s.setLstate l).responses = s.responses := rfl

@[simp] theorem State.setMotion_params (s : State) (v : Word16) (d : Bool) :
    (s.setMotion v d).params = s.params := rfl
@[simp] theorem State.setMotion_lstate (s : State) (v : Word16) (d : Bool) :
    (s.setMotion v d).lstate = s.lstate := rfl
@[simp] theorem State.setMotion_lastSpeed (s : State) (v : Word16) (d : Bool) :
    (s.setMotion v d).lastSpeed = v := rfl
@[simp] theorem State.setMotion_lastDir (s : State) (v : Word16) (d : Bool) :
    (s.setMotion v d).lastDir = d := rfl
@[simp] theorem State.setMotion_faultStatus (s : State) (v : Word16) (d : Bool) :
    (s.setMotion v d).faultStatus = s.faultStatus := rfl
@[simp] theorem State.setMotion_sh (s : State) (v : Word16) (d : Bool) :
    (s.setMotion v d).sh = s.sh := rfl
@[simp] theorem State.setMotion_ppr (s : State) (v : Word16) (d : Bool) :
    (s.setMotion v d).ppr = s.ppr := rfl
@[simp] theorem State.setMotion_pulseCount (s : State) (v : Word16) (d : Bool) :
    (s.setMotion v d).pulseCount = s.pulseCount := rfl
@[simp] theorem State.setMotion_tgtValid (s : State) (v : Word16) (d : Bool) :
    (s.setMotion v d).tgtValid = s.tgtValid := rfl
@[simp] theorem State.setMotion_target (s : State) (v : Word16) (d : Bool) :
    (s.setMotion v d).target = s.target := rfl
@[simp] theorem State.setMotion_inFlight (s : State) (v : Word16) (d : Bool) :
    (s.setMotion v d).inFlight = s.inFlight := rfl
@[simp] theorem State.setMotion_inbox (s : State) (v : Word16) (d : Bool) :
    (s.setMotion v d).inbox = s.inbox := rfl
@[simp] theorem State.setMotion_draws (s : State) (v : Word16) (d : Bool) :
    (s.setMotion v d).draws = s.draws := rfl
@[simp] theorem State.setMotion_trace (s : State) (v : Word16) (d : Bool) :
    (s.setMotion v d).trace = s.trace := rfl
@[simp] theorem State.setMotion_responses (s : State) (v : Word16) (d : Bool) :
    (s.setMotion v d).responses = s.responses := rfl

@[simp] theorem State.setPpr_params (s : State) (v : Word16) :
    (s.setPpr v).params = s.params := rfl
@[simp] theorem State.setPpr_lstate (s : State) (v : Word16) :
    (s.setPpr v).lstate = s.lstate := rfl
@[simp] theorem State.setPpr_lastSpeed (s : State) (v : Word16) :
    (s.setPpr v).lastSpeed = s.lastSpeed := rfl
@[simp] theorem State.setPpr_lastDir (s : State) (v : Word16) :
    (s.setPpr v).lastDir = s.lastDir := rfl
@[simp] theorem State.setPpr_faultStatus (s : State) (v : Word16) :
    (s.setPpr v).faultStatus = s.faultStatus := rfl
@[simp] theorem State.setPpr_sh (s : State) (v : Word16) :
    (s.setPpr v).sh = s.sh := rfl
@[simp] theorem State.setPpr_ppr (s : State) (v : Word16) :
    (s.setPpr v).ppr = v := rfl
@[simp] theorem State.setPpr_pulseCount (s : State) (v : Word16) :
    (s.setPpr v).pulseCount = s.pulseCount := rfl
@[simp] theorem State.setPpr_tgtValid (s : State) (v : Word16) :
    (s.setPpr v).tgtValid = s.tgtValid := rfl
@[simp] theorem State.setPpr_target (s : State) (v : Word16) :
    (s.setPpr v).target = s.target := rfl
@[simp] theorem State.setPpr_inFlight (s : State) (v : Word16) :
    (s.setPpr v).inFlight = s.inFlight := rfl
@[simp] theorem State.setPpr_inbox (s : State) (v : Word16) :
    (s.setPpr v).inbox = s.inbox := rfl
@[simp] theorem State.setPpr_draws (s : State) (v : Word16) :
    (s.setPpr v).draws = s.draws := rfl
@[simp] theorem State.setPpr_trace (s : State) (v : Word16) :
    (s.setPpr v).trace = s.trace := rfl
@[simp] theorem State.setPpr_responses (s : State) (v : Word16) :
    (s.setPpr v).responses = s.responses := rfl

@[simp] theorem State.setPulse_params (s : State) (v : Word32) :
    (s.setPulse v).params = s.params := rfl
@[simp] theorem State.setPulse_lstate (s : State) (v : Word32) :
    (s.setPulse v).lstate = s.lstate := rfl
@[simp] theorem State.setPulse_lastSpeed (s : State) (v : Word32) :
    (s.setPulse v).lastSpeed = s.lastSpeed := rfl
@[simp] theorem State.setPulse_lastDir (s : State) (v : Word32) :
    (s.setPulse v).lastDir = s.lastDir := rfl
@[simp] theorem State.setPulse_faultStatus (s : State) (v : Word32) :
    (s.setPulse v).faultStatus = s.faultStatus := rfl
@[simp] theorem State.setPulse_sh (s : State) (v : Word32) :
    (s.setPulse v).sh = s.sh := rfl
@[simp] theorem State.setPulse_ppr (s : State) (v : Word32) :
    (s.setPulse v).ppr = s.ppr := rfl
@[simp] theorem State.setPulse_pulseCount (s : State) (v : Word32) :
    (s.setPulse v).pulseCount = v := rfl
@[simp] theorem State.setPulse_tgtValid (s : State) (v : Word32) :
    (s.setPulse v).tgtValid = s.tgtValid := rfl
@[simp] theorem State.setPulse_target (s : State) (v : Word32) :
    (s.setPulse v).target = s.target := rfl
@[simp] theorem State.setPulse_inFlight (s : State) (v : Word32) :
    (s.setPulse v).inFlight = s.inFlight := rfl
@[simp] theorem State.setPulse_inbox (s : State) (v : Word32) :
    (s.setPulse v).inbox = s.inbox := rfl
@[simp] theorem State.setPulse_draws (s : State) (v : Word32) :
    (s.setPulse v).draws = s.draws := rfl
@[simp] theorem State.setPulse_trace (s : State) (v : Word32) :
    (s.setPulse v).trace = s.trace := rfl
@[simp] theorem State.setPulse_responses (s : State) (v : Word32) :
    (s.setPulse v).responses = s.responses := rfl

@[simp] theorem State.setTarget_params (s : State) (b : Bool) (v : Word32) :
    (s.setTarget b v).params = s.params := rfl
@[simp] theorem State.setTarget_lstate (s : State) (b : Bool) (v : Word32) :
    (s.setTarget b v).lstate = s.lstate := rfl
@[simp] theorem State.setTarget_lastSpeed (s : State) (b : Bool) (v : Word32) :
    (s.setTarget b v).lastSpeed = s.lastSpeed := rfl
@[simp] theorem State.setTarget_lastDir (s : State) (b : Bool) (v : Word32) :
    (s.setTarget b v).lastDir = s.lastDir := rfl
@[simp] theorem State.setTarget_faultStatus (s : State) (b : Bool) (v : Word32) :
    (s.setTarget b v).faultStatus = s.faultStatus := rfl
@[simp] theorem State.setTarget_sh (s : State) (b : Bool) (v : Word32) :
    (s.setTarget b v).sh = s.sh := rfl
@[simp] theorem State.setTarget_ppr (s : State) (b : Bool) (v : Word32) :
    (s.setTarget b v).ppr = s.ppr := rfl
@[simp] theorem State.setTarget_pulseCount (s : State) (b : Bool) (v : Word32) :
    (s.setTarget b v).pulseCount = s.pulseCount := rfl
@[simp] theorem State.setTarget_tgtValid (s : State) (b : Bool) (v : Word32) :
    (s.setTarget b v).tgtValid = b := rfl
@[simp] theorem State.setTarget_target (s : State) (b : Bool) (v : Word32) :
    (s.setTarget b v).target = v := rfl
@[simp] theorem State.setTarget_inFlight (s : State) (b : Bool) (v : Word32) :
    (s.setTarget b v).inFlight = s.inFlight := rfl
@[simp] theorem State.setTarget_inbox (s : State) (b : Bool) (v : Word32) :
    (s.setTarget b v).inbox = s.inbox := rfl
@[simp] theorem State.setTarget_draws (s : State) (b : Bool) (v : Word32) :
    (s.setTarget b v).draws = s.draws := rfl
@[simp] theorem State.setTarget_trace (s : State) (b : Bool) (v : Word32) :
    (s.setTarget b v).trace = s.trace := rfl
@[simp] theorem State.setTarget_responses (s : State) (b : Bool) (v : Word32) :
    (s.setTarget b v).responses = s.responses := rfl

@[simp] theorem State.setDraws_params (s : State) (ds : List Draw) :
    (s.setDraws ds).params = s.params := rfl
@[simp] theorem State.setDraws_lstate (s : State) (ds : List Draw) :
    (s.setDraws ds).lstate = s.lstate := rfl
@[simp] theorem State.setDraws_lastSpeed (s : State) (ds : List Draw) :
    (s.setDraws ds).lastSpeed = s.lastSpeed := rfl
@[simp] theorem State.setDraws_lastDir (s : State) (ds : List Draw) :
    (s.setDraws ds).lastDir = s.lastDir := rfl
@[simp] theorem State.setDraws_faultStatus (s : State) (ds : List Draw) :
    (s.setDraws ds).faultStatus = s.faultStatus := rfl
@[simp] theorem State.setDraws_sh (s : State) (ds : List Draw) :
    (s.setDraws ds).sh = s.sh := rfl
@[simp] theorem State.setDraws_ppr (s : State) (ds : List Draw) :
    (s.setDraws ds).ppr = s.ppr := rfl
@[simp] theorem State.setDraws_pulseCount (s : State) (ds : List Draw) :
    (s.setDraws ds).pulseCount = s.pulseCount := rfl
@[simp] theorem State.setDraws_tgtValid (s : State) (ds : List Draw) :
    (s.setDraws ds).tgtValid = s.tgtValid := rfl
@[simp] theorem State.setDraws_target (s : State) (ds : List Draw) :
    (s.setDraws ds).target = s.target := rfl
@[simp] theorem State.setDraws_inFlight (s : State) (ds : List Draw) :
    (s.setDraws ds).inFlight = s.inFlight := rfl
@[simp] theorem State.setDraws_inbox (s : State) (ds : List Draw) :
    (s.setDraws ds).inbox = s.inbox := rfl
@[simp] theorem State.setDraws_draws (s : State) (ds : List Draw) :
    (s.setDraws ds).draws = ds := rfl
@[simp] theorem State.setDraws_trace (s : State) (ds : List Draw) :
    (s.setDraws ds).trace = s.trace := rfl
@[simp] theorem State.setDraws_responses (s : State) (ds : List Draw) :
    (s.setDraws ds).responses = s.responses := rfl

@[simp] theorem State.setInbox_params (s : State) (xs : List Input) :
    (s.setInbox xs).params = s.params := rfl
@[simp] theorem State.setInbox_lstate (s : State) (xs : List Input) :
    (s.setInbox xs).lstate = s.lstate := rfl
@[simp] theorem State.setInbox_lastSpeed (s : State) (xs : List Input) :
    (s.setInbox xs).lastSpeed = s.lastSpeed := rfl
@[simp] theorem State.setInbox_lastDir (s : State) (xs : List Input) :
    (s.setInbox xs).lastDir = s.lastDir := rfl
@[simp] theorem State.setInbox_faultStatus (s : State) (xs : List Input) :
    (s.setInbox xs).faultStatus = s.faultStatus := rfl
@[simp] theorem State.setInbox_sh (s : State) (xs : List Input) :
    (s.setInbox xs).sh = s.sh := rfl
@[simp] theorem State.setInbox_ppr (s : State) (xs : List Input) :
    (s.setInbox xs).ppr = s.ppr := rfl
@[simp] theorem State.setInbox_pulseCount (s : State) (xs : List Input) :
    (s.setInbox xs).pulseCount = s.pulseCount := rfl
@[simp] theorem State.setInbox_tgtValid (s : State) (xs : List Input) :
    (s.setInbox xs).tgtValid = s.tgtValid := rfl
@[simp] theorem State.setInbox_target (s : State) (xs : List Input) :
    (s.setInbox xs).target = s.target := rfl
@[simp] theorem State.setInbox_inFlight (s : State) (xs : List Input) :
    (s.setInbox xs).inFlight = s.inFlight := rfl
@[simp] theorem State.setInbox_inbox (s : State) (xs : List Input) :
    (s.setInbox xs).inbox = xs := rfl
@[simp] theorem State.setInbox_draws (s : State) (xs : List Input) :
    (s.setInbox xs).draws = s.draws := rfl
@[simp] theorem State.setInbox_trace (s : State) (xs : List Input) :
    (s.setInbox xs).trace = s.trace := rfl
@[simp] theorem State.setInbox_responses (s : State) (xs : List Input) :
    (s.setInbox xs).responses = s.responses := rfl

@[simp] theorem State.setJob_params (s : State) (job : Job) :
    (s.setJob job).params = s.params := rfl
@[simp] theorem State.setJob_lstate (s : State) (job : Job) :
    (s.setJob job).lstate = s.lstate := rfl
@[simp] theorem State.setJob_lastSpeed (s : State) (job : Job) :
    (s.setJob job).lastSpeed = s.lastSpeed := rfl
@[simp] theorem State.setJob_lastDir (s : State) (job : Job) :
    (s.setJob job).lastDir = s.lastDir := rfl
@[simp] theorem State.setJob_faultStatus (s : State) (job : Job) :
    (s.setJob job).faultStatus = s.faultStatus := rfl
@[simp] theorem State.setJob_sh (s : State) (job : Job) :
    (s.setJob job).sh = s.sh := rfl
@[simp] theorem State.setJob_ppr (s : State) (job : Job) :
    (s.setJob job).ppr = s.ppr := rfl
@[simp] theorem State.setJob_pulseCount (s : State) (job : Job) :
    (s.setJob job).pulseCount = s.pulseCount := rfl
@[simp] theorem State.setJob_tgtValid (s : State) (job : Job) :
    (s.setJob job).tgtValid = s.tgtValid := rfl
@[simp] theorem State.setJob_target (s : State) (job : Job) :
    (s.setJob job).target = s.target := rfl
@[simp] theorem State.setJob_inFlight (s : State) (job : Job) :
    (s.setJob job).inFlight = some job := rfl
@[simp] theorem State.setJob_inbox (s : State) (job : Job) :
    (s.setJob job).inbox = s.inbox := rfl
@[simp] theorem State.setJob_draws (s : State) (job : Job) :
    (s.setJob job).draws = s.draws := rfl
@[simp] theorem State.setJob_trace (s : State) (job : Job) :
    (s.setJob job).trace = s.trace := rfl
@[simp] theorem State.setJob_responses (s : State) (job : Job) :
    (s.setJob job).responses = s.responses := rfl

@[simp] theorem State.capWrite_params (s : State) (w : Write) (r : CapResponse) :
    (s.capWrite w r).params = s.params := rfl
@[simp] theorem State.capWrite_lstate (s : State) (w : Write) (r : CapResponse) :
    (s.capWrite w r).lstate = s.lstate := rfl
@[simp] theorem State.capWrite_lastSpeed (s : State) (w : Write) (r : CapResponse) :
    (s.capWrite w r).lastSpeed = s.lastSpeed := rfl
@[simp] theorem State.capWrite_lastDir (s : State) (w : Write) (r : CapResponse) :
    (s.capWrite w r).lastDir = s.lastDir := rfl
@[simp] theorem State.capWrite_faultStatus (s : State) (w : Write) (r : CapResponse) :
    (s.capWrite w r).faultStatus = s.faultStatus := rfl
@[simp] theorem State.capWrite_sh (s : State) (w : Write) (r : CapResponse) :
    (s.capWrite w r).sh = s.sh.record w r := rfl
@[simp] theorem State.capWrite_ppr (s : State) (w : Write) (r : CapResponse) :
    (s.capWrite w r).ppr = s.ppr := rfl
@[simp] theorem State.capWrite_pulseCount (s : State) (w : Write) (r : CapResponse) :
    (s.capWrite w r).pulseCount = s.pulseCount := rfl
@[simp] theorem State.capWrite_tgtValid (s : State) (w : Write) (r : CapResponse) :
    (s.capWrite w r).tgtValid = s.tgtValid := rfl
@[simp] theorem State.capWrite_target (s : State) (w : Write) (r : CapResponse) :
    (s.capWrite w r).target = s.target := rfl
@[simp] theorem State.capWrite_inFlight (s : State) (w : Write) (r : CapResponse) :
    (s.capWrite w r).inFlight = s.inFlight := rfl
@[simp] theorem State.capWrite_inbox (s : State) (w : Write) (r : CapResponse) :
    (s.capWrite w r).inbox = s.inbox := rfl
@[simp] theorem State.capWrite_draws (s : State) (w : Write) (r : CapResponse) :
    (s.capWrite w r).draws = s.draws := rfl
@[simp] theorem State.capWrite_trace (s : State) (w : Write) (r : CapResponse) :
    (s.capWrite w r).trace = s.trace ++ [⟨w, r⟩] := rfl
@[simp] theorem State.capWrite_responses (s : State) (w : Write) (r : CapResponse) :
    (s.capWrite w r).responses = s.responses := rfl

@[simp] theorem State.respond_params (s : State) (st : Status) (d : Word32) :
    (s.respond st d).params = s.params := rfl
@[simp] theorem State.respond_lstate (s : State) (st : Status) (d : Word32) :
    (s.respond st d).lstate = s.lstate := rfl
@[simp] theorem State.respond_lastSpeed (s : State) (st : Status) (d : Word32) :
    (s.respond st d).lastSpeed = s.lastSpeed := rfl
@[simp] theorem State.respond_lastDir (s : State) (st : Status) (d : Word32) :
    (s.respond st d).lastDir = s.lastDir := rfl
@[simp] theorem State.respond_faultStatus (s : State) (st : Status) (d : Word32) :
    (s.respond st d).faultStatus = s.faultStatus := rfl
@[simp] theorem State.respond_sh (s : State) (st : Status) (d : Word32) :
    (s.respond st d).sh = s.sh := rfl
@[simp] theorem State.respond_ppr (s : State) (st : Status) (d : Word32) :
    (s.respond st d).ppr = s.ppr := rfl
@[simp] theorem State.respond_pulseCount (s : State) (st : Status) (d : Word32) :
    (s.respond st d).pulseCount = s.pulseCount := rfl
@[simp] theorem State.respond_tgtValid (s : State) (st : Status) (d : Word32) :
    (s.respond st d).tgtValid = s.tgtValid := rfl
@[simp] theorem State.respond_target (s : State) (st : Status) (d : Word32) :
    (s.respond st d).target = s.target := rfl
@[simp] theorem State.respond_inFlight (s : State) (st : Status) (d : Word32) :
    (s.respond st d).inFlight = none := rfl
@[simp] theorem State.respond_inbox (s : State) (st : Status) (d : Word32) :
    (s.respond st d).inbox = s.inbox := rfl
@[simp] theorem State.respond_draws (s : State) (st : Status) (d : Word32) :
    (s.respond st d).draws = s.draws := rfl
@[simp] theorem State.respond_trace (s : State) (st : Status) (d : Word32) :
    (s.respond st d).trace = s.trace := rfl
@[simp] theorem State.respond_responses (s : State) (st : Status) (d : Word32) :
    (s.respond st d).responses = s.responses ++ [⟨st, d⟩] := rfl

@[simp] theorem State.raise_params (s : State) (st : Status) :
    (s.raise st).params = s.params := rfl
@[simp] theorem State.raise_lstate (s : State) (st : Status) :
    (s.raise st).lstate = s.lstate := rfl
@[simp] theorem State.raise_lastSpeed (s : State) (st : Status) :
    (s.raise st).lastSpeed = s.lastSpeed := rfl
@[simp] theorem State.raise_lastDir (s : State) (st : Status) :
    (s.raise st).lastDir = s.lastDir := rfl
@[simp] theorem State.raise_faultStatus (s : State) (st : Status) :
    (s.raise st).faultStatus = s.faultStatus := rfl
@[simp] theorem State.raise_sh (s : State) (st : Status) :
    (s.raise st).sh = s.sh := rfl
@[simp] theorem State.raise_ppr (s : State) (st : Status) :
    (s.raise st).ppr = s.ppr := rfl
@[simp] theorem State.raise_pulseCount (s : State) (st : Status) :
    (s.raise st).pulseCount = s.pulseCount := rfl
@[simp] theorem State.raise_tgtValid (s : State) (st : Status) :
    (s.raise st).tgtValid = s.tgtValid := rfl
@[simp] theorem State.raise_target (s : State) (st : Status) :
    (s.raise st).target = s.target := rfl
@[simp] theorem State.raise_inFlight (s : State) (st : Status) :
    (s.raise st).inFlight = none := rfl
@[simp] theorem State.raise_inbox (s : State) (st : Status) :
    (s.raise st).inbox = s.inbox := rfl
@[simp] theorem State.raise_draws (s : State) (st : Status) :
    (s.raise st).draws = s.draws := rfl
@[simp] theorem State.raise_trace (s : State) (st : Status) :
    (s.raise st).trace = s.trace := rfl
@[simp] theorem State.raise_responses (s : State) (st : Status) :
    (s.raise st).responses = s.responses ++ [⟨st, 0⟩] := rfl

@[simp] theorem State.resetEvent_params (s : State) :
    s.resetEvent.params = s.params := rfl
@[simp] theorem State.resetEvent_lstate (s : State) :
    s.resetEvent.lstate = .uninit := rfl
@[simp] theorem State.resetEvent_lastSpeed (s : State) :
    s.resetEvent.lastSpeed = 0 := rfl
@[simp] theorem State.resetEvent_lastDir (s : State) :
    s.resetEvent.lastDir = false := rfl
@[simp] theorem State.resetEvent_faultStatus (s : State) :
    s.resetEvent.faultStatus = .zero := rfl
@[simp] theorem State.resetEvent_sh (s : State) :
    s.resetEvent.sh = ⟨.unknown, .unknown, .unknown, .unknown⟩ := rfl
@[simp] theorem State.resetEvent_ppr (s : State) :
    s.resetEvent.ppr = if s.params.encoderPresent then BitVec.ofNat 16 s.params.pprInit else 0 := rfl
@[simp] theorem State.resetEvent_pulseCount (s : State) :
    s.resetEvent.pulseCount = 0 := rfl
@[simp] theorem State.resetEvent_tgtValid (s : State) :
    s.resetEvent.tgtValid = false := rfl
@[simp] theorem State.resetEvent_target (s : State) :
    s.resetEvent.target = 0 := rfl
@[simp] theorem State.resetEvent_inFlight (s : State) :
    s.resetEvent.inFlight = none := rfl
@[simp] theorem State.resetEvent_inbox (s : State) :
    s.resetEvent.inbox = s.inbox := rfl
@[simp] theorem State.resetEvent_draws (s : State) :
    s.resetEvent.draws = s.draws := rfl
@[simp] theorem State.resetEvent_trace (s : State) :
    s.resetEvent.trace = s.trace := rfl
@[simp] theorem State.resetEvent_responses (s : State) :
    s.resetEvent.responses = s.responses := rfl

/-- BUSY is clear after a response. -/
@[simp] theorem State.respond_busy (s : State) (st : Status) (d : Word32) :
    (s.respond st d).busy = false := rfl

/-- BUSY is set while a command is in execution. -/
@[simp] theorem State.setJob_busy (s : State) (job : Job) : (s.setJob job).busy = true := rfl

end Sys2Proof.Machine
end

