-- ==== Sys2Proof/Laws/Ops.lean ====
section
/-! SUPPORT. The spec lemmas of the shared operations: the induction over a command in execution,
what it does on answered writes, and the small lemmas of edges, responses and the command port. -/

namespace Sys2Proof.Machine

open Sys2Proof

/-! ### The command port -/

theorem busy_eq_false_iff {s : State} : s.busy = false ↔ s.inFlight = none := by
  unfold State.busy; cases s.inFlight <;> simp

/-- A command at an idle port is executed. -/
theorem onCommandPort_idle {s : State} (h : s.busy = false) (f : State → State) :
    onCommandPort s f = .next (f s) := by
  simp [onCommandPort, h]

/-- A word at a busy port does nothing (R275). -/
theorem onCommandPort_busy {s : State} (h : s.busy = true) (f : State → State) :
    onCommandPort s f = .next s := by
  simp [onCommandPort, h]

/-- A command at the port always answers a next state: its own effect, or nothing while BUSY. -/
theorem onCommandPort_next {s t : State} {f : State → State}
    (h : onCommandPort s f = .next t) : (s.busy = true ∧ t = s) ∨ (s.busy = false ∧ t = f s) := by
  cases hb : s.busy
  · exact .inr ⟨rfl, by simpa [onCommandPort, hb] using h.symm⟩
  · exact .inl ⟨rfl, by simpa [onCommandPort, hb] using h.symm⟩

/-- The response of an idle state is a pure addition to the responses. -/
theorem respond_idle {s : State} (h : s.inFlight = none) (st : Status) (d : Word32) :
    s.respond st d = { s with responses := s.responses ++ [⟨st, d⟩] } := by
  simp [State.respond, h]

/-! ### Edges -/

theorem countEdge_eq (s : State) (p : Bool) :
    s.countEdge p = s.setPulse (if s.params.encoderPresent then countAfter s.pulseCount p
      else s.pulseCount) := by
  unfold State.countEdge State.setPulse; split <;> rfl

theorem countDraws_nil (p : Params) (n : Word32) : countDraws p n [] = n := rfl

theorem countDraws_edge (p : Params) (n : Word32) (b : Bool) (ds : List Draw) :
    countDraws p n (.edge b :: ds) =
      countDraws p (if p.encoderPresent then countAfter n b else n) ds := rfl

theorem countDraws_answer (p : Params) (n : Word32) (r : CapResponse) (ds : List Draw) :
    countDraws p n (.answer r :: ds) = countDraws p n ds := rfl

/-! ### Shadows -/

theorem Shadows.recordAll_nil (sh : Shadows) : sh.recordAll [] = sh := rfl

theorem Shadows.recordAll_cons (sh : Shadows) (x : Transaction) (xs : List Transaction) :
    sh.recordAll (x :: xs) = (sh.record x.write x.answer).recordAll xs := rfl

/-- What a write leaves in the shadow of a line: the line written takes the answer's value. -/
theorem Shadows.record_line (sh : Shadows) (w : Write) (r : CapResponse) (e : EnLine) :
    (sh.record w r).line e =
      match w with
      | .level e' v => if e' = e then shadowAfter v r else sh.line e
      | .duty _ _ => sh.line e := by
  rcases w with ⟨_ | _, v⟩ | ⟨_ | _, v⟩ <;> cases e <;> rfl

/-- What a write leaves in the shadow of a channel. -/
theorem Shadows.record_channel (sh : Shadows) (w : Write) (r : CapResponse) (c : Channel) :
    (sh.record w r).channel c =
      match w with
      | .duty c' v => if c' = c then shadowAfter v r else sh.channel c
      | .level _ _ => sh.channel c := by
  rcases w with ⟨_ | _, v⟩ | ⟨_ | _, v⟩ <;> cases c <;> rfl

/-- Only an Ok answer to its own value makes a shadow known. -/
theorem shadowAfter_eq_known {α : Type} {v u : α} {r : CapResponse}
    (h : shadowAfter v r = .known u) : r = .ok ∧ v = u := by
  cases r <;> simp_all [shadowAfter]

/-! ### A command in execution -/

/-- The command after an answer: either the answer is the first Err, and the unwind is what is left,
or the write is simply done. -/
theorem Job.answered_cases (job : Job) (m : Mode) (w : Write) (rest : List Write) (r : CapResponse) :
    (∃ code, job.failed = none ∧ r = .err code ∧
      job.answered m w rest r = ⟨job.commit, unwindWrites m w, some ⟨w.target, code⟩⟩) ∨
    ((job.failed ≠ none ∨ r = .ok) ∧ job.answered m w rest r = { job with todo := rest }) := by
  obtain ⟨k, todo, _ | f⟩ := job <;> cases r <;> simp [Job.answered]

/-- The unwind only deasserts lines of the instance, and never re-issues the failed write (R114). -/
theorem mem_unwindWrites {m : Mode} {w u : Write} :
    u ∈ unwindWrites m w ↔ (∃ e ∈ ens m, u = .level e false) ∧ u ≠ w := by
  simp only [unwindWrites, List.mem_filter, List.mem_map, decide_eq_true_eq]
  constructor
  · rintro ⟨⟨e, he, rfl⟩, h⟩; exact ⟨⟨e, he, rfl⟩, h⟩
  · rintro ⟨⟨e, he, rfl⟩, h⟩; exact ⟨⟨e, he, rfl⟩, h⟩

/-- Induction over a command in execution, once for all claims: a property `P` of the command and
the state that edges and answers keep, and that leads to `Q` where the command ends, waits or is
abandoned by a reset, gives `Q` of the result. -/
theorem runJob_induction {P : Job → State → Prop} {Q : State → Prop}
    (edge : ∀ job s p, P job s → P job (s.countEdge p))
    (answer : ∀ job s w rest r, job.todo = w :: rest → P job s →
      P (job.answered s.params.mode w rest r) (s.capWrite w r))
    (finish : ∀ job s ds, job.todo = [] → P job s → Q ((s.setDraws ds).finish job))
    (wait : ∀ job s, job.todo ≠ [] → P job s → Q ((s.setDraws []).setJob job))
    (reset : ∀ job s ds, P job s → Q ((s.setDraws ds).resetEvent))
    (ds : List Draw) (job : Job) (s : State) (h : P job s) : Q (runJob ds job s) := by
  induction ds generalizing job s with
  | nil =>
    rw [runJob]
    split
    · next he => exact finish job s [] he h
    · next he => exact wait job s (by simp [he]) h
  | cons d ds ih =>
    cases d with
    | edge p => exact ih job _ (edge job s p h)
    | reset => exact reset job s ds h
    | answer r =>
      rw [runJob]
      split
      · next he => exact finish job s _ he h
      · next w rest he => exact ih _ _ (answer job s w rest r he h)

/-- A command whose writes are all done commits and responds as soon as nothing falls before (R134). -/
theorem runJob_done {ds : List Draw} (hq : Quiet ds = true) (job : Job) (s : State)
    (h : job.todo = []) : runJob ds job s = (s.setDraws ds).finish job := by
  cases ds with
  | nil => simp [runJob, h]
  | cons d ds => cases d <;> simp_all [runJob, Quiet]

/-- A run of Ok answers does the writes one by one (R57). -/
theorem runJob_answersOk (pre todo : List Write) (ds : List Draw) (k : Commit)
    (f : Option Failure) (s : State) :
    runJob (answersOk pre.length ++ ds) ⟨k, pre ++ todo, f⟩ s =
      runJob ds ⟨k, todo, f⟩ { s with
        sh := s.sh.recordAll (okTrace pre), trace := s.trace ++ okTrace pre } := by
  induction pre generalizing s with
  | nil => simp [answersOk, okTrace, Shadows.recordAll]
  | cons w pre ih =>
    have ha : (Job.answered ⟨k, w :: (pre ++ todo), f⟩ s.params.mode w (pre ++ todo) .ok) =
        ⟨k, pre ++ todo, f⟩ := by
      rcases Job.answered_cases ⟨k, w :: (pre ++ todo), f⟩ s.params.mode w (pre ++ todo) .ok with
        ⟨_, _, h, _⟩ | ⟨_, h⟩
      · cases h
      · exact h
    have := ih (s.capWrite w .ok)
    simp only [answersOk, List.length_cons, List.replicate_succ, List.cons_append, runJob] at this ⊢
    rw [ha, this]
    simp [State.capWrite, okTrace, Shadows.recordAll]

/-- After a first failure every answer, Ok or Err, only settles its unwind write (R114, R247). -/
theorem runJob_unwind (todo : List Write) (us : List CapResponse) (ds : List Draw) (k : Commit)
    (f : Failure) (s : State) (h : us.length = todo.length) :
    runJob (us.map .answer ++ ds) ⟨k, todo, some f⟩ s =
      runJob ds ⟨k, [], some f⟩ { s with
        sh := s.sh.recordAll (List.zipWith Transaction.mk todo us),
        trace := s.trace ++ List.zipWith Transaction.mk todo us } := by
  induction us generalizing s todo with
  | nil =>
    obtain rfl : todo = [] := List.length_eq_zero_iff.mp h.symm
    simp [Shadows.recordAll]
  | cons r us ih =>
    obtain _ | ⟨w, todo⟩ := todo
    · simp at h
    · have := ih todo (s.capWrite w r) (by simpa using h)
      simp only [List.map_cons, List.cons_append, runJob, Job.answered]
      rw [this]
      simp [State.capWrite, Shadows.recordAll]

/-- The plan of an operation that has one is run from the state it was accepted in. -/
theorem actuate_of_plan {s : State} {op : MuxOp} {ws : List Write} (h : plan s.params op = some ws)
    (k : Commit) : s.actuate op k = runJob s.draws ⟨k, ws, none⟩ s := by
  simp [State.actuate, h]

end Sys2Proof.Machine
end

