-- ==== Sys2Proof/Laws/Exec.lean ====
section
/-! SUPPORT. Everything an accepted instruction can do, said once: it runs its write plan, or answers
at once with a refusal, or commits and answers OK at once, or is an edge. -/

namespace Sys2Proof.Machine

open Sys2Proof

/-- What a command with a write plan commits on success (R132, R133, R151 to R154). -/
def acceptedCommit (i : Instr) (s : State) : Commit :=
  match i with
  | .enable => .enter .enabled
  | .disable => .enter .disabled
  | .setSpeed v => .motion (speedReg (clamp s.params.maxDuty v)) (dir (clamp s.params.maxDuty v))
  | .setDirection fwd => .motion (speedReg (signedSpeed s.lastSpeed fwd)) fwd
  | .stop => .motion 0 true
  | .brake => .nothing
  | .initialise => .nothing
  | .setPpr _ | .checkPpr | .getPulseCount | .setTarget _ | .clearTarget | .checkTarget => .nothing
  | .getSpeed | .getDirection | .getCurrent | .getVoltage | .getTemperature => .nothing
  | .getFaultStatus | .edge _ => .nothing

/-- The registers a command without a write plan may set before its OK: LSTATE from UNINIT to INIT
(R131), a positive PPR with an encoder (R201), or the target with an encoder (R205, R206). -/
inductive QuickUpdate (i : Instr) (s : State) : State → Prop where
  | same (h : i ≠ .initialise ∨ s.lstate ≠ .uninit) : QuickUpdate i s s
  | init (h : i = .initialise) (hs : s.lstate = .uninit) : QuickUpdate i s (s.setLstate .init)
  | ppr (p : Int) (h : i = .setPpr p) (he : s.params.encoderPresent = true) (hp : 0 < p) :
      QuickUpdate i s (s.setPpr (BitVec.ofInt 16 p))
  | target (v : Int) (h : i = .setTarget v) (he : s.params.encoderPresent = true) :
      QuickUpdate i s (s.setTarget true (BitVec.ofInt 32 v))
  | clear (h : i = .clearTarget) (he : s.params.encoderPresent = true) :
      QuickUpdate i s (s.setTarget false 0)

/-- The inversion lemma of `exec`. -/
theorem exec_cases {i : Instr} {s t : State} (h : exec i s = .next t) :
    (∃ p, i = .edge p ∧ t = s.countEdge p) ∨
    (isCommand i = true ∧ s.busy = true ∧ t = s) ∨
    (isCommand i = true ∧ s.busy = false ∧
      ((∃ ws, acceptedPlan i s = some ws ∧ t = runJob s.draws ⟨acceptedCommit i s, ws, none⟩ s) ∨
      (acceptedPlan i s = none ∧ ∃ st, st ≠ .ok ∧ st ≠ .hardwareError ∧ t = s.raise st) ∨
      (acceptedPlan i s = none ∧ ∃ u d, QuickUpdate i s u ∧ t = u.respond .ok d))) := by
  cases i with
  | edge p => exact .inl ⟨p, rfl, by simpa [exec, execEdge] using h.symm⟩
  | initialise =>
    simp only [exec, execInitialise] at h
    refine .inr ((onCommandPort_next h).imp (fun h => ⟨rfl, h⟩) fun ⟨hb, h⟩ =>
      ⟨rfl, hb, .inr (.inr ⟨rfl, _, 0, ?_, h⟩)⟩)
    split
    · next hs => exact .init rfl hs
    · next hs => exact .same (.inr hs)
  | enable =>
    simp only [exec, execEnable] at h
    refine .inr ((onCommandPort_next h).imp (fun h => ⟨rfl, h⟩) fun ⟨hb, h⟩ => ⟨rfl, hb, ?_⟩)
    split at h
    · next hl => exact .inl ⟨_, by simp [acceptedPlan, hl, plan], h⟩
    · next hl => exact .inr (.inl ⟨by simp [acceptedPlan, hl], _, by decide, by decide, h⟩)
  | disable =>
    simp only [exec, execDisable] at h
    refine .inr ((onCommandPort_next h).imp (fun h => ⟨rfl, h⟩) fun ⟨hb, h⟩ => ⟨rfl, hb, ?_⟩)
    split at h
    · next hl => exact .inr (.inl ⟨by simp [acceptedPlan, hl], _, by decide, by decide, h⟩)
    · next hl => exact .inl ⟨_, by simp [acceptedPlan, hl, plan], h⟩
  | setSpeed v =>
    simp only [exec, execSetSpeed] at h
    refine .inr ((onCommandPort_next h).imp (fun h => ⟨rfl, h⟩) fun ⟨hb, h⟩ => ⟨rfl, hb, ?_⟩)
    by_cases hl : s.lstate = .enabled
    · simp only [State.whenEnabled, if_pos hl] at h
      exact .inl ⟨_, by simp only [acceptedPlan, if_pos hl]; rfl, h⟩
    · exact .inr (.inl ⟨by simp [acceptedPlan, hl], .invalidState, by decide, by decide,
        by simpa [State.whenEnabled, hl] using h⟩)
  | setDirection fwd =>
    simp only [exec, execSetDirection] at h
    refine .inr ((onCommandPort_next h).imp (fun h => ⟨rfl, h⟩) fun ⟨hb, h⟩ => ⟨rfl, hb, ?_⟩)
    by_cases hl : s.lstate = .enabled
    · simp only [State.whenEnabled, if_pos hl] at h
      exact .inl ⟨_, by simp only [acceptedPlan, if_pos hl]; rfl, h⟩
    · exact .inr (.inl ⟨by simp [acceptedPlan, hl], .invalidState, by decide, by decide,
        by simpa [State.whenEnabled, hl] using h⟩)
  | stop =>
    simp only [exec, execStop] at h
    refine .inr ((onCommandPort_next h).imp (fun h => ⟨rfl, h⟩) fun ⟨hb, h⟩ => ⟨rfl, hb, ?_⟩)
    by_cases hl : s.lstate = .enabled
    · simp only [State.whenEnabled, if_pos hl] at h
      exact .inl ⟨_, by simp only [acceptedPlan, if_pos hl]; rfl, h⟩
    · exact .inr (.inl ⟨by simp [acceptedPlan, hl], .invalidState, by decide, by decide,
        by simpa [State.whenEnabled, hl] using h⟩)
  | brake =>
    simp only [exec, execBrake] at h
    refine .inr ((onCommandPort_next h).imp (fun h => ⟨rfl, h⟩) fun ⟨hb, h⟩ => ⟨rfl, hb, ?_⟩)
    by_cases hl : s.lstate = .enabled
    · cases hp : plan s.params .brake with
      | none =>
        exact .inr (.inl ⟨by simp [acceptedPlan, hl, hp], .unsupportedOperation, by decide,
          by decide, by simpa [State.whenEnabled, hl, State.actuate, hp] using h⟩)
      | some ws =>
        exact .inl ⟨ws, by simp [acceptedPlan, hl, hp],
          by simpa [State.whenEnabled, hl, State.actuate, hp, acceptedCommit] using h⟩
    · exact .inr (.inl ⟨by simp [acceptedPlan, hl], .invalidState, by decide, by decide,
        by simpa [State.whenEnabled, hl] using h⟩)
  | setPpr p =>
    simp only [exec, execSetPpr] at h
    refine .inr ((onCommandPort_next h).imp (fun h => ⟨rfl, h⟩) fun ⟨hb, h⟩ => ⟨rfl, hb, .inr ?_⟩)
    unfold State.withEncoder at h
    split at h
    · next he =>
      dsimp only at h
      split at h
      · exact .inl ⟨rfl, _, by decide, by decide, h⟩
      · next hp => exact .inr ⟨rfl, _, _, .ppr p rfl he (by omega), h⟩
    · exact .inl ⟨rfl, _, by decide, by decide, h⟩
  | checkPpr =>
    simp only [exec, execCheckPpr] at h
    refine .inr ((onCommandPort_next h).imp (fun h => ⟨rfl, h⟩) fun ⟨hb, h⟩ => ⟨rfl, hb, .inr ?_⟩)
    unfold State.withEncoder at h
    split at h
    · dsimp only at h
      split at h
      · exact .inl ⟨rfl, _, by decide, by decide, h⟩
      · exact .inr ⟨rfl, _, _, .same (.inl (by simp)), h⟩
    · exact .inl ⟨rfl, _, by decide, by decide, h⟩
  | getPulseCount | checkTarget =>
    simp only [exec, execGetPulseCount, execCheckTarget] at h
    refine .inr ((onCommandPort_next h).imp (fun h => ⟨rfl, h⟩) fun ⟨hb, h⟩ => ⟨rfl, hb, .inr ?_⟩)
    unfold State.withEncoder at h
    split at h
    · exact .inr ⟨rfl, _, _, .same (.inl (by simp)), h⟩
    · exact .inl ⟨rfl, _, by decide, by decide, h⟩
  | setTarget v =>
    simp only [exec, execSetTarget] at h
    refine .inr ((onCommandPort_next h).imp (fun h => ⟨rfl, h⟩) fun ⟨hb, h⟩ => ⟨rfl, hb, .inr ?_⟩)
    unfold State.withEncoder at h
    split at h
    · next he => exact .inr ⟨rfl, _, _, .target v rfl he, h⟩
    · exact .inl ⟨rfl, _, by decide, by decide, h⟩
  | clearTarget =>
    simp only [exec, execClearTarget] at h
    refine .inr ((onCommandPort_next h).imp (fun h => ⟨rfl, h⟩) fun ⟨hb, h⟩ => ⟨rfl, hb, .inr ?_⟩)
    unfold State.withEncoder at h
    split at h
    · next he => exact .inr ⟨rfl, _, _, .clear rfl he, h⟩
    · exact .inl ⟨rfl, _, by decide, by decide, h⟩
  | getSpeed | getDirection | getCurrent | getVoltage | getTemperature | getFaultStatus =>
    simp only [exec, execGetSpeed, execGetDirection, execGetCurrent, execGetVoltage, execGetTemperature, execGetFaultStatus] at h
    exact .inr ((onCommandPort_next h).imp (fun h => ⟨rfl, h⟩) fun ⟨hb, h⟩ =>
      ⟨rfl, hb, .inr (.inr ⟨rfl, _, _, .same (.inl (by simp)), h⟩)⟩)

/-- No instruction stops: every one answers a next state, in every state. -/
theorem exec_answers (i : Instr) (s : State) : ∃ t, exec i s = .next t := by
  cases i <;> exact ⟨_, rfl⟩

/-- An accepted command with a write plan runs it from the state it was accepted in. -/
theorem exec_of_plan {i : Instr} {s : State} {ws : List Write} (hb : s.busy = false)
    (h : acceptedPlan i s = some ws) :
    exec i s = .next (runJob s.draws ⟨acceptedCommit i s, ws, none⟩ s) := by
  obtain ⟨t, ht⟩ := exec_answers i s
  rcases exec_cases ht with ⟨p, rfl, _⟩ | ⟨_, hb', _⟩ | ⟨_, _, ⟨ws', h', rfl⟩ | ⟨h', _⟩ | ⟨h', _⟩⟩
  · simp [acceptedPlan] at h
  · simp [hb] at hb'
  · rw [ht, Option.some.inj (h'.symm.trans h)]
  · simp [h'] at h
  · simp [h'] at h

/-! ### Plans -/

/-- Every plan has two writes in SINGLE_PWM and four in DUAL_PWM (R118). -/
theorem plan_length {p : Params} {op : MuxOp} {ws : List Write} (h : plan p op = some ws) :
    ws.length = planLength p.mode := by
  cases op with
  | apply c =>
    obtain rfl := (Option.some.inj h)
    cases hm : p.mode <;> by_cases hc : c = 0 <;> by_cases h0 : 0 < c <;>
      simp [coastPlan, drivePlan, planLength, hc, h0]
  | coast =>
    obtain rfl := (Option.some.inj h)
    cases p.mode <;> rfl
  | brake =>
    cases hm : p.mode <;> simp only [plan, brakePlan, hm] at h
    · cases h
    · obtain rfl := Option.some.inj h; rfl

/-- The plan of an accepted command is a plan of the mux. -/
theorem acceptedPlan_is_plan {i : Instr} {s : State} {ws : List Write}
    (h : acceptedPlan i s = some ws) : ∃ op, plan s.params op = some ws := by
  cases i <;> simp only [acceptedPlan] at h <;> first
    | cases h
    | (split at h <;> first | exact ⟨_, h⟩ | cases h)

end Sys2Proof.Machine
end

