-- ==== Sys2Proof/Laws/PerInstr.lean ====
section
/-! SUPPORT. Per-instruction facts about the encoding: the fields of the word that encodes an
instruction are the opcode of 30_encoding R74, RSV = 0 and an ARG of its class. -/

namespace Sys2Proof

/-- The fields of an assembled word are the fields it was assembled from (R71). -/
theorem fields_cmdWord (op : BitVec 8) (arg : Word32) :
    opField (cmdWord op arg) = op ∧ rsvField (cmdWord op arg) = 0 ∧
      argField (cmdWord op arg) = arg := by
  refine ⟨?_, ?_, ?_⟩
  · simp only [opField, cmdWord]; ext i hi; simp; grind
  · simp only [rsvField, cmdWord]; ext i hi; simp; grind
  · simp only [argField, cmdWord]; ext i hi; simp; grind

/-- A command word with RSV = 0 is decoded by its opcode and its ARG (R76). -/
theorem decode_cmdWord (op : BitVec 8) (arg : Word32) :
    decode (cmdWord op arg) = decodeOp op.toNat arg := by
  obtain ⟨h1, h2, h3⟩ := fields_cmdWord op arg
  simp [decode, h1, h2, h3]

/-- The opcode of R74; an edge event has none (R81). -/
def opcodeOf : Instr → Option (BitVec 8)
  | .initialise => some 0x01
  | .enable => some 0x02
  | .disable => some 0x03
  | .setSpeed _ => some 0x04
  | .setDirection _ => some 0x05
  | .stop => some 0x06
  | .brake => some 0x07
  | .setPpr _ => some 0x10
  | .checkPpr => some 0x11
  | .getPulseCount => some 0x12
  | .setTarget _ => some 0x13
  | .clearTarget => some 0x14
  | .checkTarget => some 0x15
  | .getSpeed => some 0x20
  | .getDirection => some 0x21
  | .getCurrent => some 0x22
  | .getVoltage => some 0x23
  | .getTemperature => some 0x24
  | .getFaultStatus => some 0x25
  | .edge _ => none

namespace Laws.EncodedFields

/-- The encoding of an instruction has the opcode of R74 and RSV = 0 (R72); an edge event is one bit
on the edge port (R81). -/
def Statement (i : Instr) : Prop :=
  match encode i with
  | .cmd w => opcodeOf i = some (opField w) ∧ rsvField w = 0
  | .edge _ => opcodeOf i = none

theorem of_cmdWord {i : Instr} {op : BitVec 8} {arg : Word32} (he : encode i = .cmd (cmdWord op arg))
    (ho : opcodeOf i = some op) : Statement i := by
  obtain ⟨h1, h2, _⟩ := fields_cmdWord op arg
  simp [Statement, he, ho, h1, h2]

theorem initialise : Statement .initialise := of_cmdWord rfl rfl
theorem enable : Statement .enable := of_cmdWord rfl rfl
theorem disable : Statement .disable := of_cmdWord rfl rfl
theorem setSpeed (v : Int) : Statement (.setSpeed v) := of_cmdWord rfl rfl
theorem setDirection (fwd : Bool) : Statement (.setDirection fwd) := of_cmdWord rfl rfl
theorem stop : Statement .stop := of_cmdWord rfl rfl
theorem brake : Statement .brake := of_cmdWord rfl rfl
theorem setPpr (p : Int) : Statement (.setPpr p) := of_cmdWord rfl rfl
theorem checkPpr : Statement .checkPpr := of_cmdWord rfl rfl
theorem getPulseCount : Statement .getPulseCount := of_cmdWord rfl rfl
theorem setTarget (t : Int) : Statement (.setTarget t) := of_cmdWord rfl rfl
theorem clearTarget : Statement .clearTarget := of_cmdWord rfl rfl
theorem checkTarget : Statement .checkTarget := of_cmdWord rfl rfl
theorem getSpeed : Statement .getSpeed := of_cmdWord rfl rfl
theorem getDirection : Statement .getDirection := of_cmdWord rfl rfl
theorem getCurrent : Statement .getCurrent := of_cmdWord rfl rfl
theorem getVoltage : Statement .getVoltage := of_cmdWord rfl rfl
theorem getTemperature : Statement .getTemperature := of_cmdWord rfl rfl
theorem getFaultStatus : Statement .getFaultStatus := of_cmdWord rfl rfl
theorem edge (p : Bool) : Statement (.edge p) := rfl

end Laws.EncodedFields

end Sys2Proof
end

