-- ==== Sys2Proof/Laws/Step.lean ====
section
/-! SUPPORT. Everything a step can do, said once. -/

namespace Sys2Proof.Machine

open Sys2Proof

/-- With no command in execution a step takes the next input. -/
theorem turn_idle {s : State} (h : s.busy = false) : turn s = takeInput s := by
  simp [turn, busy_eq_false_iff.mp h]

/-- Where no command in execution can go on, a step takes the next input. -/
theorem turn_waiting {s : State}
    (h : ∀ job, s.inFlight = some job → s.draws = [] ∧ job.todo ≠ []) : turn s = takeInput s := by
  unfold turn
  rcases hj : s.inFlight with _ | job
  · rfl
  · simp [h job hj]

/-- The inversion lemma of `takeInput`. -/
theorem takeInput_cases (s : State) :
    (s.inbox = [] ∧ s.busy = true ∧ takeInput s = .settled (.fault .noEnabledStep)) ∨
    (s.inbox = [] ∧ s.busy = false ∧ takeInput s = .settled (.next s)) ∨
    (∃ rest, (s.inbox = .reset :: rest ∨ ∃ w, s.inbox = .abandoned w :: rest) ∧
      takeInput s = .settled (.next (s.setInbox rest).resetEvent)) ∨
    (∃ x rest i, s.inbox = .port x :: rest ∧ decodePort x = .ok i ∧
      takeInput s = .run i (s.setInbox rest)) ∨
    (∃ x rest e, s.inbox = .port x :: rest ∧ decodePort x = .error e ∧
      takeInput s = .settled (execIllegal (s.setInbox rest))) := by
  unfold takeInput
  rcases hi : s.inbox with _ | ⟨x | _ | w, rest⟩
  · cases hb : s.busy <;> simp
  · cases hd : decodePort x <;> simp [hd]
  · simp
  · simp

/-- A step that takes an input: an idle block waits, or a reset comes, or an instruction is run, or
an illegal word is answered (and dropped while BUSY). -/
theorem step_of_takeInput {s t : State} (ht : turn s = takeInput s) (h : step s = .next t) :
    (s.inbox = [] ∧ s.busy = false ∧ t = s) ∨
    (∃ rest, (s.inbox = .reset :: rest ∨ ∃ w, s.inbox = .abandoned w :: rest) ∧ t = (s.setInbox rest).resetEvent) ∨
    (∃ x rest i, s.inbox = .port x :: rest ∧ decodePort x = .ok i ∧
      exec i (s.setInbox rest) = .next t) ∨
    (∃ x rest e, s.inbox = .port x :: rest ∧ decodePort x = .error e ∧
      ((s.busy = true ∧ t = s.setInbox rest) ∨
        (s.busy = false ∧ t = (s.setInbox rest).raise .illegalCommand))) := by
  rw [step, ht] at h
  rcases takeInput_cases s with ⟨_, _, e⟩ | ⟨hi, hb, e⟩ | ⟨rest, hi, e⟩ | ⟨x, rest, i, hi, hd, e⟩ |
    ⟨x, rest, er, hi, hd, e⟩ <;> rw [e] at h
  · cases h
  · cases h; exact .inl ⟨hi, hb, rfl⟩
  · cases h; exact .inr (.inl ⟨rest, hi, rfl⟩)
  · exact .inr (.inr (.inl ⟨x, rest, i, hi, hd, h⟩))
  · exact .inr (.inr (.inr ⟨x, rest, er, hi, hd, onCommandPort_next h⟩))

/-- The inversion lemma of `step`: a command in execution goes on, or an input is taken. -/
theorem step_cases {s t : State} (h : step s = .next t) :
    (∃ job, s.inFlight = some job ∧ (s.draws ≠ [] ∨ job.todo = []) ∧
      t = runJob s.draws job s) ∨
    (s.inbox = [] ∧ s.busy = false ∧ t = s) ∨
    (∃ rest, (s.inbox = .reset :: rest ∨ ∃ w, s.inbox = .abandoned w :: rest) ∧ t = (s.setInbox rest).resetEvent) ∨
    (∃ x rest i, s.inbox = .port x :: rest ∧ decodePort x = .ok i ∧
      exec i (s.setInbox rest) = .next t) ∨
    (∃ x rest e, s.inbox = .port x :: rest ∧ decodePort x = .error e ∧
      ((s.busy = true ∧ t = s.setInbox rest) ∨
        (s.busy = false ∧ t = (s.setInbox rest).raise .illegalCommand))) := by
  rcases hj : s.inFlight with _ | job
  · exact .inr (step_of_takeInput (by simp [turn, hj]) h)
  · by_cases hc : s.draws = [] ∧ job.todo ≠ []
    · exact .inr (step_of_takeInput (by simp [turn, hj, hc]) h)
    · refine .inl ⟨job, rfl, by tauto, ?_⟩
      have : turn s = .settled (.next (runJob s.draws job s)) := by
        simp only [turn, hj, if_neg hc]
      rw [step, this] at h
      simpa using h.symm

end Sys2Proof.Machine
end

