-- ==== Sys2Proof/Tests/Slice0.lean ====
section
/-! SUPPORT. Small tests, their expected results from spec/95_test_vectors.md and the worked examples of
the rules, and for every statement with hypotheses a witness that meets them together. -/

namespace Sys2Proof.Tests

open Sys2Proof Sys2Proof.Machine

/-! ### Instances and states -/

/-- MCF1-D with MAX_DUTY = 1000 (the instance of 95_test_vectors). -/
def instD : Params := ⟨.dualPwm, 1000, false, 0, by decide, by decide, by decide⟩

/-- MCF1-DE with MAX_DUTY = 1000, PPR_INIT = 0. -/
def instDE : Params := ⟨.dualPwm, 1000, true, 0, by decide, by decide, by decide⟩

/-- MCF1-S with MAX_DUTY = 1000. -/
def instS : Params := ⟨.singlePwm, 1000, false, 0, by decide, by decide, by decide⟩

/-- After reset, in a given lifecycle state, with what the adapters will do. -/
def at' (p : Params) (l : LState) (ds : List Draw) : State :=
  { State.resetOf p with lstate := l, draws := ds }

/-- ENABLED with LAST_SPEED = 300 and both enables asserted, MCF1-D. -/
def driving (ds : List Draw) : State :=
  { State.resetOf instD with
    lstate := .enabled, lastSpeed := 300, lastDir := true, draws := ds,
    sh := ⟨.known true, .known true, .known 300, .known 0⟩ }

/-- The state after an instruction (the instructions all answer a next state). -/
def after (i : Instr) (s : State) : State :=
  match exec i s with
  | .next t => t
  | .fault _ => s
  | .refused _ => s

/-- The status and the data of the responses. -/
def answers (s : State) : List (Status × Word32) := s.responses.map fun r => (r.status, r.data)

/-- Four writes answered Ok. -/
def ok4 : List Draw := [.answer .ok, .answer .ok, .answer .ok, .answer .ok]

/-- A command waiting for its first write's answer. -/
def waiting : State := after .enable (at' instD .init [])

/-! ### Well-formedness: an ill-formed term for each check -/

theorem test_wellFormed_refuses :
    (Instr.setSpeed 32768).wellFormed = false ∧ (Instr.setSpeed (-32769)).wellFormed = false ∧
    (Instr.setPpr 32768).wellFormed = false ∧ (Instr.setPpr (-32769)).wellFormed = false ∧
    (Instr.setTarget 2147483648).wellFormed = false ∧
    (Instr.setTarget (-2147483649)).wellFormed = false := by decide

theorem test_wellFormed_accepts :
    (Instr.setSpeed (-32768)).wellFormed = true ∧ (Instr.setPpr 32767).wellFormed = true ∧
    (Instr.setTarget 2147483647).wellFormed = true := by decide

/-- R10: the default of PPR_INIT, in both ways of giving an instance. -/
theorem test_pprInit_default :
    (Params.build .dualPwm 1000 true).map (·.pprInit) = some 0 ∧
    ({ mode := .singlePwm, maxDuty := 255, encoderPresent := true, maxDuty_pos := by decide,
       maxDuty_le := by decide, pprInit_le := by decide } : Params).pprInit = 0 := by decide

/-- R12: parameters out of range are no instance. -/
theorem test_params_refused :
    Params.build .dualPwm 0 true 0 = none ∧ Params.build .dualPwm 32768 true 0 = none ∧
    Params.build .dualPwm 1000 true 32768 = none ∧
    Params.build .dualPwm 1000 true 0 = some instDE := by decide

/-- R3: the identity strings. -/
theorem test_identity : instD.identity = "MCF1-D" ∧ instDE.identity = "MCF1-DE" ∧
    instS.identity = "MCF1-S" := by decide

/-! ### Decoding -/

/-- Source: the bit patterns of opcode_table.json, 30_encoding R71 to R74, V11. -/
theorem test_decode_lifecycle :
    decode 0b0000000100000000000000000000000000000000000000000000000000000000 = .ok .initialise ∧
    decode 0b0000001000000000000000000000000000000000000000000000000000000000 = .ok .enable ∧
    decode 0b0000001100000000000000000000000000000000000000000000000000000000 = .ok .disable := by decide

/-- Source: the bit patterns of opcode_table.json, 30_encoding R71 to R74, V11. -/
theorem test_decode_motion :
    decode 0b0000010000000000000000000000000011111111111111111000000000000000 = .ok (.setSpeed (-32768)) ∧
    decode 0b0000010100000000000000000000000000000000000000000000000000000001 = .ok (.setDirection true) ∧
    decode 0b0000011000000000000000000000000000000000000000000000000000000000 = .ok .stop ∧
    decode 0b0000011100000000000000000000000000000000000000000000000000000000 = .ok .brake := by decide

/-- Source: the bit patterns of opcode_table.json, 30_encoding R71 to R74, V11. -/
theorem test_decode_queries :
    decode 0b0010000000000000000000000000000000000000000000000000000000000000 = .ok .getSpeed ∧
    decode 0b0010000100000000000000000000000000000000000000000000000000000000 = .ok .getDirection ∧
    decode 0b0010001000000000000000000000000000000000000000000000000000000000 = .ok .getCurrent ∧
    decode 0b0010001100000000000000000000000000000000000000000000000000000000 = .ok .getVoltage ∧
    decode 0b0010010000000000000000000000000000000000000000000000000000000000 = .ok .getTemperature ∧
    decode 0b0010010100000000000000000000000000000000000000000000000000000000 = .ok .getFaultStatus := by decide

/-- Source: the bit patterns of opcode_table.json, 30_encoding R71 to R74, V11. -/
theorem test_decode_encoder :
    decode 0b0001000000000000000000000000000000000000000000000111111111111111 = .ok (.setPpr 32767) ∧
    decode 0b0001000100000000000000000000000000000000000000000000000000000000 = .ok .checkPpr ∧
    decode 0b0001001000000000000000000000000000000000000000000000000000000000 = .ok .getPulseCount ∧
    decode 0b0001001100000000000000000000000011111111111111111111111111110100 = .ok (.setTarget (-12)) ∧
    decode 0b0001010000000000000000000000000000000000000000000000000000000000 = .ok .clearTarget ∧
    decode 0b0001010100000000000000000000000000000000000000000000000000000000 = .ok .checkTarget := by decide

/-- Source: opcode_table.json row edge, R81. -/
theorem test_decode_edge : decodeEdge 0b1 = .edge true ∧ decodeEdge 0b0 = .edge false := by decide

/-- Source: V11. -/
theorem test_decode_illegal :
    decode 0x0000000000000000 = .error .undefinedOp ∧
    decode 0x0800000000000000 = .error .undefinedOp ∧
    decode 0x1600000000000000 = .error .undefinedOp ∧
    decode 0x2600000000000000 = .error .undefinedOp ∧
    decode 0xFF00000000000000 = .error .undefinedOp ∧
    decode 0x0400000100000000 = .error .reservedBits ∧
    decode 0x0180000000000000 = .error .reservedBits ∧
    decode 0x040000000000FED4 = .error .badArgument ∧
    decode 0x0400000000008000 = .error .badArgument ∧
    decode 0x0500000000000002 = .error .badArgument ∧
    decode 0x0500000080000001 = .error .badArgument ∧
    decode 0x0100000000000001 = .error .badArgument ∧
    decode 0x20000000FFFFFFFF = .error .badArgument := by decide

/-- Source: R85. -/
theorem test_encode :
    encode (.setSpeed (-300)) = .cmd 0x04000000FFFFFED4 ∧
    encode (.setPpr (-5)) = .cmd 0x10000000FFFFFFFB ∧
    encode (.setDirection true) = .cmd 0x0500000000000001 ∧
    encode .initialise = .cmd 0x0100000000000000 := by decide

/-- Source: opcode_table.json; the two ports of a table word. -/
theorem test_decodeTableWord :
    decodeTableWord 64 0x040000000000012C = some (.setSpeed 300) ∧
    decodeTableWord 8 1 = some (.edge true) ∧ decodeTableWord 8 2 = none ∧
    decodeTableWord 64 0 = none := by decide

/-- The placed word is run by the very next step after reset (R131, R203). -/
theorem test_withFetchWord :
    step (State.reset.withFetchWord 64 0x0100000000000000) = exec .initialise State.reset ∧
    step (State.reset.withFetchWord 8 1) = exec (.edge true) State.reset := ⟨rfl, rfl⟩

/-! ### Lifecycle -/

/-- Source: R131, V9, V18. -/
theorem test_initialise :
    (after .initialise (at' instD .uninit [])).lstate = .init ∧
    (after .initialise (driving [])).lstate = .enabled ∧
    (after .initialise (driving [])).lastSpeed = 300 ∧
    answers (after .initialise (driving [])) = [(.ok, 0)] := by decide

/-- Source: R132's example. -/
theorem test_enable :
    (after .enable (at' instD .init ok4)).trace =
      [⟨.level .en0 false, .ok⟩, ⟨.level .en1 false, .ok⟩, ⟨.duty .pwm0 0, .ok⟩,
        ⟨.duty .pwm1 0, .ok⟩] ∧
    (after .enable (at' instD .init ok4)).lstate = .enabled ∧
    answers (after .enable (at' instD .init ok4)) = [(.ok, 0)] := by decide

/-- Source: V19. -/
theorem test_enable_fails :
    (after .enable (at' instD .disabled [.answer .ok, .answer (.err 0x42), .answer .ok])).trace =
      [⟨.level .en0 false, .ok⟩, ⟨.level .en1 false, .err 0x42⟩, ⟨.level .en0 false, .ok⟩] ∧
    (after .enable (at' instD .disabled [.answer .ok, .answer (.err 0x42), .answer .ok])).lstate =
      .disabled ∧
    answers (after .enable (at' instD .disabled
      [.answer .ok, .answer (.err 0x42), .answer .ok])) = [(.hardwareError, 0x00010042)] := by
  decide

/-- Source: V4, V15 first row. -/
theorem test_disable :
    (after .disable (driving ok4)).lstate = .disabled ∧
    (after .disable (driving ok4)).sh = ⟨.known false, .known false, .known 0, .known 0⟩ ∧
    (after .disable (driving ok4)).lastSpeed = 300 := by decide

theorem test_disable_fails :
    (after .disable (driving [.answer (.err 7), .answer .ok])).sh =
      ⟨.unknown, .known false, .known 300, .known 0⟩ ∧
    (after .disable (driving [.answer (.err 7), .answer .ok])).lstate = .enabled ∧
    answers (after .disable (driving [.answer (.err 7), .answer .ok])) =
      [(.hardwareError, 0x00000007)] := by decide

/-! ### Motion -/

/-- Source: V2, set_speed -32768. -/
theorem test_setSpeed_clamps :
    (after (.setSpeed (-32768)) (at' instD .enabled ok4)).trace =
      [⟨.duty .pwm0 0, .ok⟩, ⟨.duty .pwm1 1000, .ok⟩, ⟨.level .en0 true, .ok⟩,
        ⟨.level .en1 true, .ok⟩] ∧
    (after (.setSpeed (-32768)) (at' instD .enabled ok4)).lastSpeed = -1000 ∧
    (after (.setSpeed (-32768)) (at' instD .enabled ok4)).lastDir = false := by decide

/-- Source: V16, an unwind write fails. -/
theorem test_setSpeed_unwind_fails :
    (after (.setSpeed 300) (at' instD .enabled [.answer .ok, .answer .ok, .answer .ok,
      .answer (.err 3), .answer (.err 9), .answer .ok])).sh =
      ⟨.unknown, .known false, .known 300, .known 0⟩ ∧
    answers (after (.setSpeed 300) (at' instD .enabled [.answer .ok, .answer .ok, .answer .ok,
      .answer (.err 3), .answer (.err 9), .answer .ok])) = [(.hardwareError, 0x00010003)] := by
  decide

/-- Source: R152's example. -/
theorem test_setDirection :
    (after (.setDirection false) (driving ok4)).trace =
      [⟨.duty .pwm0 0, .ok⟩, ⟨.duty .pwm1 300, .ok⟩, ⟨.level .en0 true, .ok⟩,
        ⟨.level .en1 true, .ok⟩] ∧
    (after (.setDirection false) (driving ok4)).lastSpeed = -300 ∧
    (after (.setDirection false) (driving ok4)).lastDir = false := by decide

/-- Source: V21 first row: magnitude 0 coasts and LAST_DIR takes the operand. -/
theorem test_setDirection_zero :
    (after (.setDirection true) (at' instD .enabled ok4)).lastDir = true ∧
    (after (.setDirection true) (at' instD .enabled ok4)).lastSpeed = 0 ∧
    (after (.setDirection true) (at' instD .enabled ok4)).sh =
      ⟨.known false, .known false, .known 0, .known 0⟩ := by decide

/-- Source: V21, stop. -/
theorem test_stop :
    (after .stop (driving ok4)).lastSpeed = 0 ∧ (after .stop (driving ok4)).lastDir = true ∧
    (after .stop (driving ok4)).sh = ⟨.known false, .known false, .known 0, .known 0⟩ := by decide

/-- Source: V17, stop in SINGLE_PWM with a failing first write: not issued again. -/
theorem test_stop_no_retry :
    (after .stop (at' instS .enabled [.answer (.err 5)])).trace =
      [⟨.level .en0 false, .err 5⟩] ∧
    answers (after .stop (at' instS .enabled [.answer (.err 5)])) =
      [(.hardwareError, 0x00000005)] := by decide

/-- Source: V5, V21. -/
theorem test_brake :
    (after .brake (driving ok4)).sh = ⟨.known true, .known true, .known 1000, .known 1000⟩ ∧
    (after .brake (driving ok4)).lastSpeed = 300 := by decide

/-- Source: V28, SINGLE_PWM: state before brake-unsupported. -/
theorem test_brake_single :
    answers (after .brake (at' instS .disabled [])) = [(.invalidState, 0)] ∧
    answers (after .brake (at' instS .enabled [])) = [(.unsupportedOperation, 0)] := by decide

/-- Source: V27: an edge between the second and the third write is counted at once. -/
theorem test_edge_inside_setSpeed :
    (after (.setSpeed 300) (at' instDE .enabled
      [.answer .ok, .answer .ok, .edge true, .answer .ok, .answer .ok])).pulseCount = 1 ∧
    answers (after (.setSpeed 300) (at' instDE .enabled
      [.answer .ok, .answer .ok, .edge true, .answer .ok, .answer .ok])) = [(.ok, 0)] := by decide

/-- Source: R272: a reset after two writes abandons the command. -/
theorem test_reset_inside_setSpeed :
    (after (.setSpeed 300) (at' instD .enabled [.answer .ok, .answer .ok, .reset])).lstate =
      .uninit ∧
    (after (.setSpeed 300) (at' instD .enabled [.answer .ok, .answer .ok, .reset])).responses = [] ∧
    (after (.setSpeed 300) (at' instD .enabled [.answer .ok, .answer .ok, .reset])).sh =
      ⟨.unknown, .unknown, .unknown, .unknown⟩ := by decide

/-! ### Queries -/

/-- Source: R181's example and R182's corner case. -/
theorem test_getSpeed :
    answers (after .getSpeed { driving [] with lastSpeed := -300 }) = [(.ok, 0xFFFFFED4)] := by decide

theorem test_getDirection :
    answers (after .getDirection (driving [])) = [(.ok, 1)] ∧
    answers (after .getDirection State.reset) = [(.ok, 0)] := by decide

/-- Source: V22. -/
theorem test_sensors :
    answers (after .getCurrent State.reset) = [(.ok, 0)] ∧
    answers (after .getVoltage State.reset) = [(.ok, 0)] ∧
    answers (after .getTemperature State.reset) = [(.ok, 0)] ∧
    answers (after .getFaultStatus State.reset) = [(.ok, 0)] := by decide

/-! ### Encoder -/

/-- Source: V7, V24. -/
theorem test_setPpr :
    answers (after (.setPpr 1000) State.reset) = [(.ok, 1)] ∧
    (after (.setPpr 1000) State.reset).ppr = 1000 ∧
    answers (after (.setPpr 1000) { State.reset with ppr := 1000 }) = [(.ok, 0)] := by decide

theorem test_setPpr_refused :
    answers (after (.setPpr 0) State.reset) = [(.invalidArgument, 0)] ∧
    answers (after (.setPpr (-32768)) State.reset) = [(.invalidArgument, 0)] ∧
    answers (after (.setPpr (-5)) (at' instD .uninit [])) = [(.unsupportedOperation, 0)] := by decide

/-- Source: V24, V26. -/
theorem test_checkPpr :
    answers (after .checkPpr State.reset) = [(.invalidArgument, 0)] ∧
    answers (after .checkPpr { State.reset with ppr := 1 }) = [(.ok, 0)] := by decide

/-- Source: R204's example. -/
theorem test_getPulseCount :
    answers (after .getPulseCount { State.reset with pulseCount := -2 }) = [(.ok, 0xFFFFFFFE)] ∧
    answers (after .getPulseCount (at' instD .uninit [])) = [(.unsupportedOperation, 0)] := by decide

/-- Source: R205's and R206's examples. -/
theorem test_target :
    (after (.setTarget (-12)) State.reset).target = 0xFFFFFFF4 ∧
    (after (.setTarget (-12)) State.reset).tgtValid = true ∧
    (after .clearTarget { State.reset with tgtValid := true, target := 3 }).tgtValid = false ∧
    (after .clearTarget { State.reset with tgtValid := true, target := 3 }).target = 0 := by decide

/-- Source: R207's example; V24, no target set. -/
theorem test_checkTarget :
    answers (after .checkTarget { State.reset with tgtValid := true, target := 3, pulseCount := 3 }) =
      [(.ok, 1)] ∧
    answers (after .checkTarget { State.reset with tgtValid := true, target := 3, pulseCount := 4 }) =
      [(.ok, 0)] ∧
    answers (after .checkTarget State.reset) = [(.ok, 0)] := by decide

/-- Source: V25. -/
theorem test_edge_saturates :
    (after (.edge true) { State.reset with pulseCount := 0x7FFFFFFF }).pulseCount = 0x7FFFFFFF ∧
    (after (.edge false) { State.reset with pulseCount := 0x7FFFFFFF }).pulseCount = 0x7FFFFFFE ∧
    (after (.edge false) { State.reset with pulseCount := 0x80000000 }).pulseCount = 0x80000000 ∧
    (after (.edge true) { State.reset with pulseCount := 0x80000000 }).pulseCount = 0x80000001 := by
  decide

/-- Source: V10, V26. -/
theorem test_edge :
    (after (.edge false) State.reset).pulseCount = 0xFFFFFFFF ∧
    (after (.edge true) (at' instD .uninit [])).pulseCount = 0 := by decide

/-! ### The mapper, the encodings of responses and channels -/

/-- Source: V12. -/
theorem test_mapper :
    clamp 1000 (-32768) = -1000 ∧ clamp 1000 999 = 999 ∧ clamp 32767 (-32768) = -32767 ∧
    clamp 1 5 = 1 ∧ dir 0 = true ∧ dir (-1) = false ∧ mag (-32767) = 32767 := by decide

/-- Source: R78, R79, R80, R53. -/
theorem test_channel_bits :
    (Response.mk .hardwareError 0x00020042).bits = 0x0100020042 ∧
    Status.illegalCommand.code = 0x05 ∧ (Write.duty .pwm1 300).target.id = 3 ∧
    (Write.level .en1 true).value = 1 ∧ CapResponse.ofBits 0 0x42 = .ok ∧
    CapResponse.ofBits 1 0x42 = .err 0x42 ∧ LState.disabled.code = 0b11 := by decide

/-- Source: R82. -/
theorem test_asm : (Instr.setDirection false).asm = "set_direction rev" ∧
    Instr.getFaultStatus.asm = "get_fault_status" := by decide

/-- Source: R66, R275, R279: an unanswered write leaves BUSY = 1, a word is dropped, an edge counted. -/
theorem test_waiting :
    waiting.busy = true ∧ waiting.responses = [] ∧ after .getSpeed waiting = waiting ∧
    (after (.edge true) { waiting with params := instDE }).pulseCount = 1 := by decide

/-! ### Witnesses: for each statement with hypotheses, operands and a state that meet them together -/

theorem witness_DecodeOfEncode : (Instr.setSpeed (-32768)).wellFormed = true := by decide

theorem witness_EncodeOfDecode :
    decodePort (.cmd 0x13000000FFFFFFF4) = .ok (.setTarget (-12)) ∧
    decodePort (.edge 0) = .ok (.edge false) := by decide

/-- The clauses of IllegalWordsAreExactlyThese, one word each. -/
theorem witness_IllegalWordsAreExactlyThese :
    (0x0180000000000000#64).extractLsb' 32 24 ≠ 0 ∧
    ((0x2600000000000000#64).extractLsb' 56 8).toNat = 38 ∧
    (0x20000000FFFFFFFF#64).extractLsb' 0 32 ≠ 0 ∧
    (0x0400000000008000#64).extractLsb' 0 32 ≠
      ((0x0400000000008000#64).extractLsb' 0 16).signExtend 32 ∧
    (0x0500000080000001#64).extractLsb' 1 31 ≠ 0 := by decide

theorem witness_StepRunsTheDecodedInstruction :
    (∀ job, (State.reset.setInbox [.port (.cmd 0x2000000000000000)]).inFlight = some job →
      (State.reset.setInbox [.port (.cmd 0x2000000000000000)]).draws = [] ∧ job.todo ≠ []) ∧
    decodePort (.cmd 0x2000000000000000) = .ok .getSpeed :=
  ⟨(by intro job h; cases h), (by decide)⟩

/-- The same with a command that waits for its adapter. -/
theorem witness_StepRunsTheDecodedInstruction_waiting :
    (∀ job, (waiting.setInbox [.port (.edge 1)]).inFlight = some job →
      (waiting.setInbox [.port (.edge 1)]).draws = [] ∧ job.todo ≠ []) ∧
    decodePort (.edge 1) = .ok (.edge true) := by
  refine ⟨?_, by decide⟩
  intro job h
  cases h
  decide

theorem witness_PlacedWordIsRunNext :
    State.reset.busy = false ∧ decode 0x0700000000000000 = .ok .brake ∧
    decodeEdge 1 = .edge true := by decide

theorem witness_IllegalWordIsAnsweredIllegalCommand :
    (State.reset.setInbox [.port (.cmd 0)]).busy = false ∧
    (State.reset.setInbox [.port (.cmd 0)]).inbox = [.port (.cmd 0)] ∧
    decode 0 = .error .undefinedOp := by decide

theorem witness_NoCommandWhileBusy : isCommand .getSpeed = true ∧ waiting.busy = true := by decide

theorem witness_SilentAdapterLeavesNoEnabledStep :
    waiting.inFlight = some ⟨.enter .enabled, coastPlan .dualPwm, none⟩ ∧
    coastPlan .dualPwm = .level .en0 false :: [.level .en1 false, .duty .pwm0 0, .duty .pwm1 0] ∧
    waiting.draws = [] ∧ waiting.inbox = [] := by decide

theorem witness_UnansweredWriteLeavesBusy :
    (at' instD .init []).busy = false ∧
    acceptedPlan .enable (at' instD .init []) = some (coastPlan .dualPwm) ∧
    (at' instD .init []).draws = [] := by decide

theorem witness_OneResponseUnlessWaitingOrReset :
    isCommand .getSpeed = true ∧ State.reset.busy = false ∧
    exec .getSpeed State.reset = .next (after .getSpeed State.reset) :=
  ⟨by decide, by decide, rfl⟩

/-- The three outcomes of OneResponseUnlessWaitingOrReset all occur. -/
theorem witness_OneResponseUnlessWaitingOrReset_clauses :
    (after .enable (at' instD .init ok4)).busy = false ∧ waiting.busy = true ∧
    Draw.reset ∈ (at' instD .init [.answer .ok, .reset]).draws ∧
    (after .enable (at' instD .init [.answer .ok, .reset])).responses = [] := by decide

theorem witness_ResetState_encoder : instDE.encoderPresent = true := by decide

theorem witness_ResetStepWritesNothing :
    (∀ job, (waiting.setInbox [.reset]).inFlight = some job →
      (waiting.setInbox [.reset]).draws = [] ∧ job.todo ≠ []) ∧
    (waiting.setInbox [.reset]).inbox = [.reset] := by
  refine ⟨?_, rfl⟩
  intro job h
  cases h
  decide

theorem witness_ResetStepWritesNothing_abandoned :
    (State.reset.setInbox [.abandoned 0x2000000000000000]).inFlight = none ∧
    (State.reset.setInbox [.abandoned 0x2000000000000000]).inbox =
      [.abandoned 0x2000000000000000] := by decide

/-- At both ends of the range of `k`. -/
theorem witness_ResetAbandonsTheCommand :
    (at' instD .init [.reset]).busy = false ∧
    acceptedPlan .enable (at' instD .init [.reset]) = some (coastPlan .dualPwm) ∧
    (at' instD .init [.reset]).draws = answersOk 0 ++ .reset :: [] ∧
    4 ≤ (coastPlan .dualPwm).length ∧
    (at' instD .init (ok4 ++ [.reset])).draws = answersOk 4 ++ .reset :: [] := by decide

/-- The bounds of `m`, and a speed within. -/
theorem witness_MapperClampsAndSplits :
    (1 : Nat) ≤ 1 ∧ (1 : Nat) ≤ 32767 ∧ (1 : Nat) ≤ 32767 ∧ (32767 : Nat) ≤ 32767 ∧
    -((32767 : Nat) : Int) ≤ -32767 ∧ (-32767 : Int) ≤ (32767 : Nat) := by decide

/-- Each clause at a boundary of `c`. -/
theorem witness_PlanOfEveryModeAndOperation :
    instS.mode = .singlePwm ∧ instD.mode = .dualPwm ∧
    -(instD.maxDuty : Int) ≤ -1000 ∧ (1000 : Int) ≤ instD.maxDuty ∧
    (0 : Int) < 1 ∧ (-1 : Int) < 0 := by decide

theorem witness_EnablePolicyOfDualPwm :
    instD.mode = .dualPwm ∧ plan instD (.apply 1000) = some (drivePlan .dualPwm 1000) ∧
    plan instD .coast = some (coastPlan .dualPwm) ∧
    (∀ c, MuxOp.apply 1000 = .apply c → -(instD.maxDuty : Int) ≤ c ∧ c ≤ instD.maxDuty) ∧
    (∃ c v, Write.duty c v ∈ drivePlan .dualPwm 1000 ∧ v ≠ 0) ∧
    (∀ c v, Write.duty c v ∈ coastPlan .dualPwm → v = 0) := by
  refine ⟨by decide, by decide, by decide, ?_, ⟨.pwm0, 1000, by decide, by decide⟩, ?_⟩
  · intro c h
    cases h
    decide
  · intro c v h
    simpa [coastPlan] using (by simp [coastPlan] at h; rcases h with ⟨_, h⟩ | ⟨_, h⟩ <;> exact h : v = 0)

/-- After a brake, the first write of a driving plan. -/
theorem witness_DrivingNeverLeavesBothChannelsOn :
    instD.mode = .dualPwm ∧ (200 : Int) ≠ 0 ∧
    plan instD (.apply 200) = some (drivePlan .dualPwm 200) ∧ 1 ≤ 1 ∧
    ((⟨.known true, .known true, .known 1000, .known 1000⟩ : Shadows).recordAll
      (okTrace ((drivePlan .dualPwm 200).take 1))).pwm0 = .known 1000 ∧
    ((⟨.known true, .known true, .known 1000, .known 1000⟩ : Shadows).recordAll
      (okTrace ((drivePlan .dualPwm 200).take 1))).pwm1 = .known 0 := by decide

theorem witness_InitializeResult : State.reset.busy = false := by decide

/-- Both states ENABLE succeeds from, in both modes. -/
theorem witness_EnableSucceeds :
    (at' instD .init ok4).busy = false ∧ (at' instD .init ok4).lstate = .init ∧
    (at' instD .init ok4).draws = answersOk (planLength instD.mode) ++ [] ∧
    Quiet [] = true ∧ (at' instS .disabled ok4).lstate = .disabled ∧
    (at' instS .disabled ok4).draws =
      answersOk (planLength instS.mode) ++ [.answer .ok, .answer .ok] ∧
    Quiet [.answer .ok, .answer .ok] = true := by decide

theorem witness_DisableSucceeds :
    (driving ok4).busy = false ∧ (driving ok4).lstate ≠ .uninit ∧
    (driving ok4).draws = answersOk (planLength (driving ok4).params.mode) ++ [] ∧
    Quiet [] = true := by decide

theorem witness_LifecycleStateGuard :
    State.reset.busy = false ∧ State.reset.lstate = .uninit ∧ (driving []).busy = false ∧
    (driving []).lstate = .enabled := by decide

theorem witness_LifecycleFrame :
    isLifecycle .disable = true ∧ Draw.reset ∉ (driving ok4).draws ∧
    exec .disable (driving ok4) = .next (after .disable (driving ok4)) :=
  ⟨by decide, by decide, rfl⟩

/-- The hypotheses of SetSpeedSucceeds, SetDirectionSucceeds and StopSucceeds. -/
theorem witness_MotionSucceeds :
    (driving ok4).busy = false ∧ (driving ok4).lstate = .enabled ∧
    (driving ok4).draws = answersOk (planLength (driving ok4).params.mode) ++ [] ∧
    Quiet [] = true := by decide

/-- Both clauses of BrakeResult. -/
theorem witness_BrakeResult :
    (driving ok4).busy = false ∧ (driving ok4).lstate = .enabled ∧
    (driving ok4).params.mode = .dualPwm ∧ (driving ok4).draws = answersOk 4 ++ [] ∧
    Quiet [] = true ∧ (at' instS .enabled []).busy = false ∧
    (at' instS .enabled []).lstate = .enabled ∧
    (at' instS .enabled []).params.mode = .singlePwm := by decide

theorem witness_MotionStateGuard :
    isMotion .brake = true ∧ (at' instS .disabled []).busy = false ∧
    (at' instS .disabled []).lstate ≠ .enabled := by decide

/-- Both clauses of OverrangeSpeedIsTheCeiling, at and beyond the bound. -/
theorem witness_OverrangeSpeedIsTheCeiling :
    ((driving []).params.maxDuty : Int) ≤ 1000 ∧ ((driving []).params.maxDuty : Int) ≤ 32767 ∧
    (-1000 : Int) ≤ -((driving []).params.maxDuty : Int) ∧
    (-32768 : Int) ≤ -((driving []).params.maxDuty : Int) := by decide

theorem witness_SinglePwmDoesNotReverse :
    (at' instS .enabled ok4).params.mode = .singlePwm ∧
    exec (.setSpeed 250) (at' instS .enabled ok4) =
      .next (after (.setSpeed 250) (at' instS .enabled ok4)) ∧
    exec (.setSpeed (-250)) (at' instS .enabled ok4) =
      .next (after (.setSpeed (-250)) (at' instS .enabled ok4)) :=
  ⟨by decide, rfl, rfl⟩

theorem witness_MotionFrame :
    isMotion .brake = true ∧ Draw.reset ∉ (driving ok4).draws ∧
    exec .brake (driving ok4) = .next (after .brake (driving ok4)) :=
  ⟨by decide, by decide, rfl⟩

/-- The third write of set_speed 300 fails, its unwind is answered (V14). -/
theorem witness_FailedWriteUnwinds :
    (at' instD .enabled (answersOk 2 ++ .answer (.err 9) :: ([.ok, .err 8].map .answer ++ []))).busy =
      false ∧
    acceptedPlan (.setSpeed 300) (at' instD .enabled
      (answersOk 2 ++ .answer (.err 9) :: ([.ok, .err 8].map .answer ++ []))) =
      some ([.duty .pwm1 0, .duty .pwm0 300] ++ .level .en0 true :: [.level .en1 true]) ∧
    [CapResponse.ok, .err 8].length = (unwindWrites instD.mode (.level .en0 true)).length ∧
    Quiet [] = true := by decide

/-- A failing brake. -/
theorem witness_NoLineKnownAssertedAfterHardwareError :
    (driving [.answer (.err 1), .answer .ok, .answer .ok]).busy = false ∧
    exec .brake (driving [.answer (.err 1), .answer .ok, .answer .ok]) =
      .next (after .brake (driving [.answer (.err 1), .answer .ok, .answer .ok])) ∧
    (after .brake (driving [.answer (.err 1), .answer .ok, .answer .ok])).responses =
      (driving [.answer (.err 1), .answer .ok, .answer .ok]).responses ++
        [⟨.hardwareError, 0x00020001⟩] ∧
    EnLine.en0 ∈ ens instD.mode :=
  ⟨by decide, rfl, by decide, by decide⟩

theorem witness_ErrorsCommitNothing :
    (driving [.answer (.err 1)]).busy = false ∧
    exec (.setSpeed 5) (at' instS .enabled [.answer (.err 1), .answer .ok]) =
      .next (after (.setSpeed 5) (at' instS .enabled [.answer (.err 1), .answer .ok])) ∧
    (after (.setSpeed 5) (at' instS .enabled [.answer (.err 1), .answer .ok])).responses =
      [] ++ [⟨.hardwareError, 0x00020001⟩] ∧
    (⟨.hardwareError, 0x00020001⟩ : Response).status ≠ .ok :=
  ⟨by decide, rfl, by decide, by decide⟩

theorem witness_RefusalsComeBeforeAnyWrite :
    State.reset.busy = false ∧ exec .brake State.reset = .next (after .brake State.reset) ∧
    (after .brake State.reset).responses = State.reset.responses ++ [⟨.invalidState, 0⟩] ∧
    (⟨.invalidState, 0⟩ : Response).status ≠ .ok ∧
    (⟨.invalidState, 0⟩ : Response).status ≠ .hardwareError :=
  ⟨by decide, rfl, by decide, by decide, by decide⟩

/-- The bound is met: six writes in DUAL_PWM (V14, fourth row). -/
theorem witness_BoundedWritesPerCommand :
    (at' instD .enabled (answersOk 3 ++ [.answer (.err 1), .answer .ok, .answer .ok])).busy = false ∧
    (after (.setSpeed 300) (at' instD .enabled
      (answersOk 3 ++ [.answer (.err 1), .answer .ok, .answer .ok]))).trace.length = 6 := by decide

theorem witness_QueriesAndEncoderCommandsWriteNothing :
    isQuery .getSpeed = true ∧ isEncoderCommand .checkPpr = true ∧
    exec .getSpeed State.reset = .next (after .getSpeed State.reset) ∧
    exec .checkPpr State.reset = .next (after .checkPpr State.reset) :=
  ⟨by decide, by decide, rfl, rfl⟩

theorem witness_OnlyLifecycleCommandsChangeLstate :
    isLifecycle .brake = false ∧ Draw.reset ∉ (driving ok4).draws ∧
    exec .brake (driving ok4) = .next (after .brake (driving ok4)) :=
  ⟨by decide, by decide, rfl⟩

/-- GetSpeedResult, GetDirectionResult and SensorQueriesAnswerZero. -/
theorem witness_Queries :
    State.reset.busy = false ∧ Instr.getFaultStatus ∈
      [.getCurrent, .getVoltage, .getTemperature, .getFaultStatus] := by decide

/-- At the lower bound of the speed. -/
theorem witness_GetSpeedReadsTheSpeedBack :
    (driving ok4).busy = false ∧ (driving ok4).lstate = .enabled ∧
    -((driving ok4).params.maxDuty : Int) ≤ -1000 ∧ (-1000 : Int) ≤ (driving ok4).params.maxDuty ∧
    exec (.setSpeed (-1000)) (driving ok4) = .next (after (.setSpeed (-1000)) (driving ok4)) ∧
    (after (.setSpeed (-1000)) (driving ok4)).responses = (driving ok4).responses ++ [⟨.ok, 0⟩] :=
  ⟨by decide, by decide, by decide, by decide, rfl, by decide⟩

theorem witness_NoEncoderGate :
    (driving []).params.encoderPresent = false ∧ isEncoderCommand (.setPpr (-5)) = true ∧
    (driving []).busy = false := by decide

/-- Both clauses of SetPprResult at their bounds, and the hypotheses of the encoder results. -/
theorem witness_EncoderResults :
    State.reset.busy = false ∧ State.reset.params.encoderPresent = true ∧
    (-32768 : Int) ≤ -32768 ∧ (0 : Int) ≤ 0 ∧ (0 : Int) < 1 ∧ (32767 : Int) ≤ 32767 ∧
    (-2147483648 : Int) ≤ -2147483648 ∧ (2147483647 : Int) ≤ 2147483647 := by decide

theorem witness_EncoderIgnoresLifecycle :
    (isEncoderCommand .checkTarget = true ∨ isCommand .checkTarget = false) ∧
    exec .checkTarget State.reset = .next (after .checkTarget State.reset) ∧
    isCommand (.edge true) = false :=
  ⟨by decide, rfl, by decide⟩

theorem witness_CountAndTargetIgnorePpr :
    Instr.getPulseCount ∈ [.getPulseCount, .clearTarget, .checkTarget] ∧
    exec .getPulseCount State.reset = .next (after .getPulseCount State.reset) :=
  ⟨by decide, rfl⟩

/-- EdgesDoNotDisturbACommand and NoCommandReadsShadows, with edges inside the command. -/
theorem witness_WholeMachine :
    exec .stop (driving (.edge true :: ok4)) = .next (after .stop (driving (.edge true :: ok4))) ∧
    (driving (.edge true :: ok4)).draws.filter (fun d => !isEdge d) = ok4 :=
  ⟨rfl, by decide⟩

/-- A state that meets the invariant, outside ENABLED, with an instruction to run. -/
theorem witness_Invariant :
    (State.resetOf instDE).Inv ∧ (State.resetOf instDE).lstate ≠ .enabled ∧
    step (State.resetOf instDE) = .next (State.resetOf instDE) := by
  refine ⟨⟨by decide, by decide, by decide, ?_, ?_, ?_, ?_, by decide, ?_⟩, by decide, rfl⟩
  · intro _ e _
    cases e <;> decide
  · intro c v h
    cases c <;> cases h
  · intro e _
    cases e <;> rfl
  · intro c _
    cases c <;> rfl
  · intro job h
    cases h

theorem witness_ParametersNeverChange :
    step (State.reset.withFetchWord 64 0x1000000000000001) =
      .next (after (.setPpr 1) State.reset) := rfl

end Sys2Proof.Tests
end

/-! ## The state (10_state)

What every step keeps: the parameters, the invariant of R35, and which capability writes a step
issues. -/

namespace Sys2Proof.Machine

open Sys2Proof

/-! ### What the decoder gives is well formed (R73) -/

theorem operandNone_wellFormed {arg : Word32} {i j : Instr}
    (h : operandNone arg i = .ok j) (hi : i.wellFormed = true) : j.wellFormed = true := by
  unfold operandNone at h
  split at h
  · cases h; exact hi
  · cases h

theorem operandS16_wellFormed {arg : Word32} {mk : Int → Instr} {j : Instr}
    (h : operandS16 arg mk = .ok j)
    (hmk : ∀ v, fitsI16 v → (mk v).wellFormed = true) : j.wellFormed = true := by
  unfold operandS16 at h
  split at h
  · cases h
    have hlow := (arg.extractLsb' 0 16).le_toInt
    have hhigh := (arg.extractLsb' 0 16).toInt_lt
    exact hmk _ (by constructor <;> omega)
  · cases h

theorem operandBool_wellFormed {arg : Word32} {mk : Bool → Instr} {j : Instr}
    (h : operandBool arg mk = .ok j)
    (hmk : ∀ b, (mk b).wellFormed = true) : j.wellFormed = true := by
  unfold operandBool at h
  split at h
  · cases h; exact hmk _
  · cases h

theorem operandS32_wellFormed {arg : Word32} {mk : Int → Instr} {j : Instr}
    (h : operandS32 arg mk = .ok j)
    (hmk : ∀ v, fitsI32 v → (mk v).wellFormed = true) : j.wellFormed = true := by
  cases h
  have hlow := arg.le_toInt
  have hhigh := arg.toInt_lt
  exact hmk _ (by constructor <;> omega)

theorem decodeOp_wellFormed {op : Nat} {arg : Word32} {i : Instr} (h : decodeOp op arg = .ok i) :
    i.wellFormed = true := by
  unfold decodeOp at h
  split at h
  case h_4 | h_8 => exact operandS16_wellFormed h fun _ hv => decide_eq_true hv
  case h_5 => exact operandBool_wellFormed h fun _ => rfl
  case h_11 => exact operandS32_wellFormed h fun _ hv => decide_eq_true hv
  case h_20 => cases h
  all_goals exact operandNone_wellFormed h rfl

/-- Every transaction that decodes gives a well-formed instruction. -/
theorem decodePort_wellFormed {x : PortWord} {i : Instr} (h : decodePort x = .ok i) :
    i.wellFormed = true := by
  cases x with
  | edge p => cases h; rfl
  | cmd w =>
    simp only [decodePort, decode] at h
    split at h
    · exact decodeOp_wellFormed h
    · cases h

/-! ### The invariant and the updates of the state (R35) -/

/-- The invariant speaks of no input and of nothing observed. -/
theorem State.Inv.inputsAndLog {s : State} (h : s.Inv) (inbox : List Input) (draws : List Draw)
    (trace : List Transaction) (responses : List Response) :
    State.Inv { s with inbox := inbox, draws := draws, trace := trace, responses := responses } :=
  { h with }

theorem State.Inv.setInbox {s : State} (h : s.Inv) (inbox : List Input) : (s.setInbox inbox).Inv :=
  h.inputsAndLog inbox s.draws s.trace s.responses

theorem State.Inv.setDraws {s : State} (h : s.Inv) (ds : List Draw) : (s.setDraws ds).Inv :=
  h.inputsAndLog s.inbox ds s.trace s.responses

theorem State.Inv.respond {s : State} (h : s.Inv) (st : Status) (d : Word32) :
    (s.respond st d).Inv :=
  { h with jobSound := by simp }

theorem State.Inv.countEdge {s : State} (h : s.Inv) (p : Bool) : (s.countEdge p).Inv := by
  unfold State.countEdge
  split
  · next he => exact { h with absentEncoder := fun ha => by simp [he] at ha }
  · exact h

/-- The reset state of every set of parameters meets the invariant (R270). -/
theorem State.resetOf_inv (p : Params) : (State.resetOf p).Inv where
  speedBelow := by simp [State.resetOf]
  speedAbove := by simp [State.resetOf]
  pprNonneg := by
    have hle := p.pprInit_le
    simp only [State.resetOf]
    split
    · rw [BitVec.toInt_ofNat', Int.bmod_eq_of_le] <;> omega
    · decide
  linesOff _ e _ := by cases e <;> simp [State.resetOf, Shadows.line]
  dutyBound c v hv := by cases c <;> cases hv
  absentLine e _ := by cases e <;> rfl
  absentChannel c _ := by cases c <;> rfl
  absentEncoder h := by simp_all [State.resetOf]
  jobSound job hj := by cases hj

theorem State.resetEvent_inv (s : State) : s.resetEvent.Inv :=
  (State.resetOf_inv s.params).inputsAndLog s.inbox s.draws s.trace s.responses

/-! ### The plans are legal (R29, R79) -/

theorem level_legal {p : Params} {e : EnLine} (he : e ∈ ens p.mode) (b : Bool) :
    (Write.level e b).legal p := he

theorem coastPlan_legal (p : Params) : ∀ w ∈ coastPlan p.mode, w.legal p := by
  cases hm : p.mode <;> simp [coastPlan, Write.legal, ens, channels, hm]

theorem mag_toNat_le {p : Params} {c : Int} (hc : c.natAbs ≤ p.maxDuty) :
    (mag c).toNat ≤ p.maxDuty :=
  (BitVec.toNat_ofNat ..).trans_le ((Nat.mod_le _ _).trans hc)

theorem drivePlan_legal {p : Params} {c : Int} (hc : c.natAbs ≤ p.maxDuty) :
    ∀ w ∈ drivePlan p.mode c, w.legal p := by
  have hmag := mag_toNat_le hc
  cases hm : p.mode with
  | singlePwm => simp [drivePlan, Write.legal, ens, channels, hm, hmag]
  | dualPwm =>
    by_cases h0 : 0 < c <;> simp [drivePlan, Write.legal, ens, channels, hm, hmag, h0]

theorem plan_apply_legal {p : Params} {c : Int} {ws : List Write} (hc : c.natAbs ≤ p.maxDuty)
    (h : plan p (.apply c) = some ws) : ∀ w ∈ ws, w.legal p := by
  cases h
  split
  · exact coastPlan_legal p
  · exact drivePlan_legal hc

theorem brakePlan_legal {p : Params} {ws : List Write} (h : brakePlan p = some ws) :
    ∀ w ∈ ws, w.legal p := by
  cases hm : p.mode <;> simp only [brakePlan, hm] at h
  · cases h
  · cases h
    have hduty : p.maxDuty % 65536 ≤ p.maxDuty := Nat.mod_le _ _
    simp [Write.legal, ens, channels, hm, hduty]

theorem unwindWrites_legal {p : Params} {w : Write} : ∀ u ∈ unwindWrites p.mode w, u.legal p := by
  intro u hu
  obtain ⟨⟨e, he, rfl⟩, _⟩ := mem_unwindWrites.mp hu
  exact he

/-- A coast plan asserts no line, and deasserts every line there is (R105, R109). -/
theorem level_true_notMem_coastPlan (m : Mode) (e : EnLine) : .level e true ∉ coastPlan m := by
  cases m <;> simp [coastPlan]

theorem level_false_mem_coastPlan {m : Mode} {e : EnLine} (he : e ∈ ens m) :
    .level e false ∈ coastPlan m := by
  cases m <;> cases e <;> simp_all [coastPlan, ens]

/-! ### The commands with a write plan, in three kinds -/

theorem clamp_natAbs_le (m : Nat) (v : Int) : (clamp m v).natAbs ≤ m := by
  unfold clamp; omega

theorem signedSpeed_natAbs (lastSpeed : Word16) (fwd : Bool) :
    (signedSpeed lastSpeed fwd).natAbs = lastSpeed.toInt.natAbs := by
  unfold signedSpeed; split <;> omega

/-- A speed within the ceiling is the value of its register (R8, R151). -/
theorem speedReg_toInt {p : Params} {c : Int} (hc : c.natAbs ≤ p.maxDuty) :
    (speedReg c).toInt = c := by
  have hle := p.maxDuty_le
  rw [speedReg, BitVec.toInt_ofInt, Int.bmod_eq_of_le] <;> omega

/-- What is accepted with a write plan: a lifecycle command, which coasts and enters a state; in
ENABLED a motion at a speed within the ceiling (STOP is the motion at 0); in ENABLED a brake. -/
theorem acceptedPlan_cases {i : Instr} {s : State} {ws : List Write} (hs : s.Inv)
    (h : acceptedPlan i s = some ws) :
    (∃ l, acceptedCommit i s = .enter l ∧ ws = coastPlan s.params.mode) ∨
    (s.lstate = .enabled ∧ ∃ c d, c.natAbs ≤ s.params.maxDuty ∧
      acceptedCommit i s = .motion (speedReg c) d ∧ plan s.params (.apply c) = some ws) ∨
    (s.lstate = .enabled ∧ acceptedCommit i s = .nothing ∧ brakePlan s.params = some ws) := by
  cases i with
  | enable | disable =>
    simp only [acceptedPlan, plan] at h
    split at h <;> cases h
    exact .inl ⟨_, rfl, rfl⟩
  | setSpeed v =>
    simp only [acceptedPlan] at h
    split at h
    · next hl => exact .inr (.inl ⟨hl, _, _, clamp_natAbs_le _ v, rfl, h⟩)
    · cases h
  | setDirection fwd =>
    simp only [acceptedPlan] at h
    split at h
    · next hl =>
      have hc : (signedSpeed s.lastSpeed fwd).natAbs ≤ s.params.maxDuty := by
        have hbelow := hs.speedBelow
        have habove := hs.speedAbove
        rw [signedSpeed_natAbs]; omega
      exact .inr (.inl ⟨hl, _, _, hc, rfl, h⟩)
    · cases h
  | stop =>
    simp only [acceptedPlan] at h
    split at h
    · next hl => exact .inr (.inl ⟨hl, 0, true, Nat.zero_le _, rfl, h⟩)
    · cases h
  | brake =>
    simp only [acceptedPlan] at h
    split at h
    · next hl => exact .inr (.inr ⟨hl, rfl, h⟩)
    · cases h
  | _ => cases h

theorem acceptedPlan_legal {i : Instr} {s : State} {ws : List Write} (hs : s.Inv)
    (h : acceptedPlan i s = some ws) : ∀ w ∈ ws, w.legal s.params := by
  rcases acceptedPlan_cases hs h with ⟨_, _, rfl⟩ | ⟨_, c, _, hc, _, hp⟩ | ⟨_, _, hp⟩
  · exact coastPlan_legal _
  · exact plan_apply_legal hc hp
  · exact brakePlan_legal hp

/-- Outside ENABLED no command is accepted with an assertion in its plan (R132, R133, R150). -/
theorem acceptedPlan_asserts_only_enabled {i : Instr} {s : State} {ws : List Write} (hs : s.Inv)
    (hl : s.lstate ≠ .enabled) (h : acceptedPlan i s = some ws) (e : EnLine) :
    .level e true ∉ ws := by
  rcases acceptedPlan_cases hs h with ⟨_, _, rfl⟩ | ⟨hl', _⟩ | ⟨hl', _⟩
  · exact level_true_notMem_coastPlan _ e
  · exact absurd hl' hl
  · exact absurd hl' hl

/-! ### A command in execution is sound -/

/-- An accepted command starts sound. -/
theorem acceptedJob_sound {i : Instr} {s : State} {ws : List Write} (hs : s.Inv)
    (h : acceptedPlan i s = some ws) : Job.Sound ⟨acceptedCommit i s, ws, none⟩ s := by
  refine ⟨acceptedPlan_legal hs h, ?_⟩
  rcases acceptedPlan_cases hs h with ⟨_, hk, rfl⟩ | ⟨hl, c, _, hc, hk, _⟩ | ⟨hl, hk, _⟩ <;>
    simp only [hk]
  · exact ⟨level_true_notMem_coastPlan _, fun _ e he => .inl (level_false_mem_coastPlan he)⟩
  · rw [speedReg_toInt hc]
    exact ⟨hl, by omega, by omega⟩
  · exact hl

/-- Outside ENABLED a sound command has no assertion left to write. -/
theorem Job.Sound.level_true_notMem {job : Job} {s : State} (h : job.Sound s)
    (hl : s.lstate ≠ .enabled) (e : EnLine) : .level e true ∉ job.todo := by
  obtain ⟨k, todo, f⟩ := job
  obtain ⟨_, hkind⟩ := h
  cases k with
  | enter l => exact hkind.1 e
  | motion v d => exact absurd hkind.1 hl
  | nothing => exact absurd hkind hl

/-- Only an assertion can make a line known asserted. -/
theorem Shadows.record_line_ne_true {sh : Shadows} {w : Write} {e : EnLine} (r : CapResponse)
    (hw : w ≠ .level e true) (h : sh.line e ≠ .known true) :
    (sh.record w r).line e ≠ .known true := by
  rw [Shadows.record_line]
  split
  · next e' v =>
    split
    · next he =>
      intro hk
      obtain ⟨_, rfl⟩ := shadowAfter_eq_known hk
      exact hw (he ▸ rfl)
    · exact h
  · exact h

/-- The answer to its outstanding write leaves a command sound: what is left is the rest of the plan,
or the unwind, which only deasserts (R113, R114). -/
theorem Job.Sound.answered {job : Job} {s : State} {w : Write} {rest : List Write}
    (h : job.Sound s) (ht : job.todo = w :: rest) (r : CapResponse) :
    (job.answered s.params.mode w rest r).Sound (s.capWrite w r) := by
  obtain ⟨k, todo, f⟩ := job
  obtain rfl : todo = w :: rest := ht
  obtain ⟨hlegal, hkind⟩ := h
  rcases Job.answered_cases ⟨k, w :: rest, f⟩ s.params.mode w rest r with
    ⟨code, _, _, ha⟩ | ⟨hok, ha⟩ <;> rw [ha]
  · refine ⟨unwindWrites_legal, ?_⟩
    cases k with
    | enter l =>
      refine ⟨fun e hmem => ?_, nofun⟩
      obtain ⟨⟨_, _, heq⟩, _⟩ := mem_unwindWrites.mp hmem
      cases heq
    | motion v d => exact hkind
    | nothing => exact hkind
  · refine ⟨fun u hu => hlegal u (List.mem_cons_of_mem w hu), ?_⟩
    cases k with
    | enter l =>
      obtain ⟨hno, hoff⟩ := hkind
      refine ⟨fun e hmem => hno e (List.mem_cons_of_mem w hmem), fun hf e he => ?_⟩
      rcases hoff hf e he with hmem | hsh
      · rcases List.mem_cons.mp hmem with rfl | hmem
        · obtain rfl : r = .ok := hok.resolve_left (absurd hf)
          exact .inr (by simp [Shadows.record_line, shadowAfter])
        · exact .inl hmem
      · exact .inr (Shadows.record_line_ne_true r (fun hw => hno e (hw ▸ List.mem_cons_self)) hsh)
    | motion v d => exact hkind
    | nothing => exact hkind

/-! ### A command in execution keeps the invariant -/

theorem setJob_countEdge (s : State) (job : Job) (p : Bool) :
    (s.countEdge p).setJob job = (s.setJob job).countEdge p := by
  simp only [countEdge_eq]; rfl

/-- An answered write of the command in execution keeps the invariant. -/
theorem State.Inv.capWrite_setJob {s : State} {job : Job} {w : Write} {rest : List Write}
    (h : (s.setJob job).Inv) (ht : job.todo = w :: rest) (r : CapResponse) :
    ((s.capWrite w r).setJob (job.answered s.params.mode w rest r)).Inv := by
  have hsound : job.Sound s := h.jobSound job rfl
  have hw : w.legal s.params := hsound.1 w (ht ▸ List.mem_cons_self)
  exact { h with
    linesOff := fun hl e he => by
      refine Shadows.record_line_ne_true r (fun hwt => ?_) (h.linesOff hl e he)
      exact hsound.level_true_notMem hl e (ht ▸ hwt ▸ List.mem_cons_self)
    dutyBound := fun c v hv => by
      simp only [State.setJob_sh, State.capWrite_sh, Shadows.record_channel] at hv
      split at hv
      · split at hv
        · obtain ⟨_, rfl⟩ := shadowAfter_eq_known hv
          exact hw.2
        · exact h.dutyBound c v hv
      · exact h.dutyBound c v hv
    absentLine := fun e he => by
      simp only [State.setJob_sh, State.capWrite_sh, Shadows.record_line]
      split
      · next e' _ =>
        have hne : e' ≠ e := fun heq => he (heq ▸ hw)
        rw [if_neg hne]; exact h.absentLine e he
      · exact h.absentLine e he
    absentChannel := fun c hc => by
      simp only [State.setJob_sh, State.capWrite_sh, Shadows.record_channel]
      split
      · next c' _ =>
        have hne : c' ≠ c := fun heq => hc (heq ▸ hw.1)
        rw [if_neg hne]; exact h.absentChannel c hc
      · exact h.absentChannel c hc
    jobSound := fun j hj => by
      obtain rfl := Option.some.inj hj
      exact hsound.answered ht r }

/-- A sound command whose writes are all answered ends in a state of the invariant (R134). -/
theorem State.Inv.finish {s : State} {job : Job} (h : (s.setJob job).Inv) (ht : job.todo = []) :
    (s.finish job).Inv := by
  obtain ⟨_, hkind⟩ := h.jobSound job rfl
  have hidle (st d) : (s.respond st d).Inv := h.respond st d
  obtain ⟨k, todo, _ | f⟩ := job
  · obtain rfl : todo = [] := ht
    cases k with
    | enter l =>
      exact { hidle .ok 0 with
        linesOff := fun _ e he => (hkind.2 rfl e he).resolve_left List.not_mem_nil
        jobSound := nofun }
    | motion v d =>
      obtain ⟨_, hbelow, habove⟩ := hkind
      exact { hidle .ok 0 with speedBelow := hbelow, speedAbove := habove, jobSound := nofun }
    | nothing => exact hidle .ok 0
  · exact hidle _ _

/-- A sound command run from a state of the invariant ends, waits or is abandoned in one. -/
theorem runJob_keeps_inv (ds : List Draw) {job : Job} {s : State} (h : (s.setJob job).Inv) :
    (runJob ds job s).Inv := by
  refine runJob_induction (P := fun job s => (s.setJob job).Inv) ?edge ?answer ?finish ?wait ?reset
    ds job s h
  case edge => exact fun job s p h => setJob_countEdge s job p ▸ h.countEdge p
  case answer => exact fun job s w rest r ht h => h.capWrite_setJob ht r
  case finish => exact fun job s ds ht h => State.Inv.finish (h.setDraws ds) ht
  case wait => exact fun job s _ h => h.setDraws []
  case reset => exact fun job s ds _ => State.resetEvent_inv _

/-! ### A step keeps the invariant -/

theorem State.Inv.quickUpdate {i : Instr} {s u : State} (h : s.Inv) (hwf : i.wellFormed = true)
    (hu : QuickUpdate i s u) (st : Status) (d : Word32) : (u.respond st d).Inv := by
  cases hu with
  | same => exact h.respond st d
  | init hi hs =>
    exact { h.respond st d with
      linesOff := fun _ => h.linesOff (by simp [hs])
      jobSound := nofun }
  | ppr p hi he hp =>
    subst hi
    have hp' : p ≤ 32767 := (of_decide_eq_true hwf).2
    exact { h.respond st d with
      pprNonneg := by
        simp only [State.respond_ppr, State.setPpr_ppr]
        rw [BitVec.toInt_ofInt, Int.bmod_eq_of_le] <;> omega
      absentEncoder := fun ha => by simp [he] at ha
      jobSound := nofun }
  | target v hi he =>
    exact { h.respond st d with
      absentEncoder := fun ha => by simp [he] at ha
      jobSound := nofun }
  | clear hi he =>
    exact { h.respond st d with
      absentEncoder := fun ha => by simp [he] at ha
      jobSound := nofun }

/-- A well-formed instruction keeps the invariant. (A SET_PPR beyond i16, which no word decodes to,
could make PPR negative.) -/
theorem exec_keeps_inv {i : Instr} {s t : State} (hs : s.Inv) (hwf : i.wellFormed = true)
    (h : exec i s = .next t) : t.Inv := by
  rcases exec_cases h with ⟨p, _, rfl⟩ | ⟨_, _, rfl⟩ | ⟨_, _, ⟨ws, hp, rfl⟩ | ⟨_, st, _, _, rfl⟩ |
    ⟨_, u, d, hu, rfl⟩⟩
  · exact hs.countEdge p
  · exact hs
  · refine runJob_keeps_inv _ { hs with jobSound := fun job hj => ?_ }
    obtain rfl := Option.some.inj hj
    exact acceptedJob_sound hs hp
  · exact hs.respond st 0
  · exact hs.quickUpdate hwf hu .ok d

/-- Settles O55: the command in execution goes on by `runJob_keeps_inv`, an input is taken by
`exec_keeps_inv`, and everything else sets no register but by reset. -/
theorem stepKeepsInvariant : Obligations.StepKeepsInvariant := by
  intro s t hs h
  rcases step_cases h with ⟨job, hj, _, rfl⟩ | ⟨_, _, rfl⟩ | ⟨rest, _, rfl⟩ |
    ⟨x, rest, i, _, hd, h⟩ | ⟨x, rest, _, _, _, ⟨_, rfl⟩ | ⟨_, rfl⟩⟩
  · refine runJob_keeps_inv _ { hs with jobSound := fun job' hj' => ?_ }
    obtain rfl := Option.some.inj hj'
    exact hs.jobSound job hj
  · exact hs
  · exact State.resetEvent_inv _
  · exact exec_keeps_inv (hs.setInbox rest) (decodePort_wellFormed hd) h
  · exact hs.setInbox rest
  · exact (hs.setInbox rest).respond _ _

/-- Settles O56, clause by clause in `State.resetOf_inv`. -/
theorem resetMeetsInvariant : Obligations.ResetMeetsInvariant :=
  State.resetOf_inv

/-! ### The capability writes of a step -/

/-- From `s` to `t` the trace grew by writes that all meet `Good`, and by nothing else. -/
def State.IssuesOnly (Good : Write → Prop) (s t : State) : Prop :=
  ∃ xs, t.trace = s.trace ++ xs ∧ ∀ x ∈ xs, Good x.write

theorem State.IssuesOnly.of_trace_eq {Good : Write → Prop} {s t : State} (h : t.trace = s.trace) :
    s.IssuesOnly Good t :=
  ⟨[], by simpa using h, by simp⟩

theorem State.IssuesOnly.capWrite {Good : Write → Prop} {s t : State} {w : Write}
    (h : s.IssuesOnly Good t) (hw : Good w) (r : CapResponse) :
    s.IssuesOnly Good (t.capWrite w r) := by
  obtain ⟨xs, htrace, hgood⟩ := h
  refine ⟨xs ++ [⟨w, r⟩], by simp [htrace], fun x hx => ?_⟩
  rcases List.mem_append.mp hx with hx | hx
  · exact hgood x hx
  · cases List.mem_singleton.mp hx; exact hw

@[simp] theorem countEdge_params (s : State) (p : Bool) : (s.countEdge p).params = s.params := by
  simp [countEdge_eq]

@[simp] theorem countEdge_trace (s : State) (p : Bool) : (s.countEdge p).trace = s.trace := by
  simp [countEdge_eq]

@[simp] theorem countEdge_lstate (s : State) (p : Bool) : (s.countEdge p).lstate = s.lstate := by
  simp [countEdge_eq]

@[simp] theorem commit_params (s : State) (k : Commit) : (s.commit k).params = s.params := by
  cases k <;> rfl

@[simp] theorem commit_trace (s : State) (k : Commit) : (s.commit k).trace = s.trace := by
  cases k <;> rfl

theorem commit_lstate {k : Commit} (hk : ∀ l, k ≠ .enter l) (s : State) :
    (s.commit k).lstate = s.lstate := by
  cases k with
  | enter l => exact absurd rfl (hk l)
  | motion | nothing => rfl

@[simp] theorem finish_params (s : State) (job : Job) : (s.finish job).params = s.params := by
  unfold State.finish; split <;> simp

@[simp] theorem finish_trace (s : State) (job : Job) : (s.finish job).trace = s.trace := by
  unfold State.finish; split <;> simp

theorem finish_lstate {job : Job} (hk : ∀ l, job.commit ≠ .enter l) (s : State) :
    (s.finish job).lstate = s.lstate := by
  unfold State.finish; split <;> simp [commit_lstate hk]

theorem QuickUpdate.params_eq {i : Instr} {s u : State} (h : QuickUpdate i s u) :
    u.params = s.params := by
  cases h <;> rfl

theorem QuickUpdate.trace_eq {i : Instr} {s u : State} (h : QuickUpdate i s u) :
    u.trace = s.trace := by
  cases h <;> rfl

theorem QuickUpdate.lstate_eq {i : Instr} {s u : State} (h : QuickUpdate i s u)
    (hi : i ≠ .initialise) : u.lstate = s.lstate := by
  cases h with
  | init h => exact absurd h hi
  | same | ppr | target | clear => rfl

/-- The writes of a command in execution are those of its plan and deassertions of its unwind
(R113, R114). -/
theorem runJob_issuesOnly {Good : Write → Prop} {job : Job} {s : State}
    (hjob : ∀ w ∈ job.todo, Good w) (hoff : ∀ e ∈ ens s.params.mode, Good (.level e false))
    (ds : List Draw) : s.IssuesOnly Good (runJob ds job s) := by
  refine runJob_induction
    (P := fun job u => u.params = s.params ∧ (∀ w ∈ job.todo, Good w) ∧ s.IssuesOnly Good u)
    ?edge ?answer ?finish ?wait ?reset ds job s ⟨rfl, hjob, .of_trace_eq rfl⟩
  case edge =>
    rintro job u p ⟨hp, hjob, hu⟩
    exact ⟨by simpa using hp, hjob, by simpa [State.IssuesOnly] using hu⟩
  case answer =>
    rintro job u w rest r ht ⟨hp, hjob, hu⟩
    rw [ht] at hjob
    refine ⟨hp, ?_, hu.capWrite (hjob w List.mem_cons_self) r⟩
    rcases Job.answered_cases job u.params.mode w rest r with ⟨_, _, _, ha⟩ | ⟨_, ha⟩ <;>
      rw [ha] <;> intro v hv
    · obtain ⟨⟨e, he, rfl⟩, _⟩ := mem_unwindWrites.mp hv
      exact hoff e (hp ▸ he)
    · exact hjob v (List.mem_cons_of_mem w hv)
  case finish =>
    rintro job u ds _ ⟨_, _, hu⟩
    simpa [State.IssuesOnly] using hu
  case wait => exact fun job u _ ⟨_, _, hu⟩ => hu
  case reset => exact fun job u ds ⟨_, _, hu⟩ => hu

theorem exec_issuesOnly {Good : Write → Prop} {i : Instr} {s t : State}
    (hplan : ∀ ws, acceptedPlan i s = some ws → ∀ w ∈ ws, Good w)
    (hoff : ∀ e ∈ ens s.params.mode, Good (.level e false))
    (h : exec i s = .next t) : s.IssuesOnly Good t := by
  rcases exec_cases h with ⟨p, _, rfl⟩ | ⟨_, _, rfl⟩ | ⟨_, _, ⟨ws, hp, rfl⟩ | ⟨_, st, _, _, rfl⟩ |
    ⟨_, u, d, hu, rfl⟩⟩
  · exact .of_trace_eq (countEdge_trace s p)
  · exact .of_trace_eq rfl
  · exact runJob_issuesOnly (hplan ws hp) hoff _
  · exact .of_trace_eq rfl
  · exact .of_trace_eq hu.trace_eq

/-- The writes of a step are those left of the command in execution, those of the plan of an accepted
command, and deassertions of an unwind. -/
theorem step_issuesOnly {Good : Write → Prop} {s t : State}
    (hjob : ∀ job, s.inFlight = some job → ∀ w ∈ job.todo, Good w)
    (hplan : ∀ i ws, acceptedPlan i s = some ws → ∀ w ∈ ws, Good w)
    (hoff : ∀ e ∈ ens s.params.mode, Good (.level e false))
    (h : step s = .next t) : s.IssuesOnly Good t := by
  rcases step_cases h with ⟨job, hj, _, rfl⟩ | ⟨_, _, rfl⟩ | ⟨rest, _, rfl⟩ |
    ⟨x, rest, i, _, _, h⟩ | ⟨x, rest, _, _, _, ⟨_, rfl⟩ | ⟨_, rfl⟩⟩
  · exact runJob_issuesOnly (hjob job hj) hoff _
  · exact .of_trace_eq rfl
  · exact .of_trace_eq rfl
  · exact exec_issuesOnly (s := s.setInbox rest) (hplan i) hoff h
  · exact .of_trace_eq rfl
  · exact .of_trace_eq rfl

/-- Settles O57: outside ENABLED neither the command in execution nor an accepted plan has an
assertion to write, and an unwind has none at all. -/
theorem noAssertionOutsideEnabled : Obligations.NoAssertionOutsideEnabled := by
  intro s t hs hl h
  refine step_issuesOnly (Good := fun w => ∀ e, w ≠ .level e true) ?_ ?_ (by simp) h
  · intro job hj w hw e he
    exact (hs.jobSound job hj).level_true_notMem hl e (he ▸ hw)
  · intro i ws hp w hw e he
    exact acceptedPlan_asserts_only_enabled hs hl hp e (he ▸ hw)

/-- Settles O58: the writes left of a sound command, every accepted plan and every unwind are
legal. -/
theorem everyWriteIsLegal : Obligations.EveryWriteIsLegal := by
  intro s t hs h
  exact step_issuesOnly (fun job hj => (hs.jobSound job hj).1)
    (fun i ws hp => acceptedPlan_legal hs hp) (fun e he => level_legal he false) h

/-! ### What a step leaves unchanged -/

theorem runJob_params (ds : List Draw) (job : Job) (s : State) :
    (runJob ds job s).params = s.params := by
  refine runJob_induction (P := fun _ u => u.params = s.params) (Q := fun u => u.params = s.params)
    ?edge ?answer ?finish ?wait ?reset ds job s rfl
  case edge => intro job u p h; simpa using h
  case answer => exact fun job u w rest r _ h => h
  case finish => intro job u ds _ h; simpa using h
  case wait => exact fun job u _ h => h
  case reset => exact fun job u ds h => h

theorem exec_params {i : Instr} {s t : State} (h : exec i s = .next t) : t.params = s.params := by
  rcases exec_cases h with ⟨p, _, rfl⟩ | ⟨_, _, rfl⟩ | ⟨_, _, ⟨ws, _, rfl⟩ | ⟨_, st, _, _, rfl⟩ |
    ⟨_, u, d, hu, rfl⟩⟩
  · exact countEdge_params s p
  · rfl
  · exact runJob_params _ _ s
  · rfl
  · exact hu.params_eq

/-- Settles O59: a reset too takes the register values for the parameters there are. -/
theorem parametersNeverChange : Obligations.ParametersNeverChange := by
  intro s t h
  rcases step_cases h with ⟨job, _, _, rfl⟩ | ⟨_, _, rfl⟩ | ⟨rest, _, rfl⟩ |
    ⟨x, rest, i, _, _, h⟩ | ⟨x, rest, _, _, _, ⟨_, rfl⟩ | ⟨_, rfl⟩⟩
  · exact runJob_params _ job s
  · rfl
  · rfl
  · exact exec_params (s := s.setInbox rest) h
  · rfl
  · rfl

theorem Job.answered_commit (job : Job) (m : Mode) (w : Write) (rest : List Write)
    (r : CapResponse) : (job.answered m w rest r).commit = job.commit := by
  rcases Job.answered_cases job m w rest r with ⟨_, _, _, ha⟩ | ⟨_, ha⟩ <;> rw [ha]

/-- A command that enters no state, and that no reset abandons, keeps LSTATE (R23). -/
theorem runJob_lstate {ds : List Draw} (hds : .reset ∉ ds) {job : Job}
    (hk : ∀ l, job.commit ≠ .enter l) (s : State) : (runJob ds job s).lstate = s.lstate := by
  induction ds generalizing job s with
  | nil =>
    rw [runJob]
    split
    · exact finish_lstate hk _
    · rfl
  | cons d ds ih =>
    have hds' : .reset ∉ ds := fun h => hds (List.mem_cons_of_mem d h)
    cases d with
    | edge p => exact (ih hds' hk _).trans (countEdge_lstate s p)
    | reset => exact absurd List.mem_cons_self hds
    | answer r =>
      rw [runJob]
      split
      · exact finish_lstate hk _
      · exact ih hds' (by simpa [Job.answered_commit] using hk) _

theorem acceptedCommit_ne_enter {i : Instr} (hi : isLifecycle i = false) (s : State) (l : LState) :
    acceptedCommit i s ≠ .enter l := by
  cases i <;> simp_all [acceptedCommit, isLifecycle]

/-- Settles O39: LSTATE is set by the commit of a lifecycle command and by the quick update of R131
only. -/
theorem onlyLifecycleCommandsChangeLstate : Obligations.OnlyLifecycleCommandsChangeLstate := by
  intro i s t hi hds h
  rcases exec_cases h with ⟨p, _, rfl⟩ | ⟨_, _, rfl⟩ | ⟨_, _, ⟨ws, _, rfl⟩ | ⟨_, st, _, _, rfl⟩ |
    ⟨_, u, d, hu, rfl⟩⟩
  · exact countEdge_lstate s p
  · rfl
  · exact runJob_lstate hds (acceptedCommit_ne_enter hi s) s
  · rfl
  · exact hu.lstate_eq (by rintro rfl; cases hi)

/-! ### BUSY (R33) -/

/-- Settles O8: a busy port executes no command. -/
theorem noCommandWhileBusy : Obligations.NoCommandWhileBusy := by
  intro i s hi hb
  obtain ⟨t, ht⟩ := exec_answers i s
  rcases exec_cases ht with ⟨p, rfl, _⟩ | ⟨_, _, rfl⟩ | ⟨_, hb', _⟩
  · cases hi
  · exact ht
  · simp [hb] at hb'

theorem acceptedPlan_ne_nil {i : Instr} {s : State} {ws : List Write}
    (h : acceptedPlan i s = some ws) : ws ≠ [] := by
  obtain ⟨op, hp⟩ := acceptedPlan_is_plan h
  have hlen := plan_length hp
  rintro rfl
  cases hm : s.params.mode <;> simp [hm, planLength] at hlen

/-- With nothing drawn a command with writes left waits for its answer (R66). -/
theorem runJob_waits {job : Job} (h : job.todo ≠ []) (s : State) :
    runJob [] job s = (s.setDraws []).setJob job := by
  rw [runJob]
  split
  · next he => exact absurd he h
  · rfl

/-- Settles O10: every plan has a first write, and the command waits at it. -/
theorem unansweredWriteLeavesBusy : Obligations.UnansweredWriteLeavesBusy := by
  intro i s ws hb hp hds
  refine ⟨acceptedCommit i s, ?_⟩
  rw [exec_of_plan hb hp, hds, runJob_waits (acceptedPlan_ne_nil hp)]
  rfl

/-! ### Nothing reads a shadow register (R28, R58) -/

/-- `t` is `s` with other shadow contents. -/
def EqButShadows (s t : State) : Prop := ∃ sh, t = { s with sh := sh }

namespace EqButShadows

theorem refl (s : State) : EqButShadows s s := ⟨s.sh, rfl⟩

variable {s t : State}

theorem setDraws (h : EqButShadows s t) (ds : List Draw) :
    EqButShadows (s.setDraws ds) (t.setDraws ds) := by
  obtain ⟨sh, rfl⟩ := h; exact ⟨sh, rfl⟩

theorem setJob (h : EqButShadows s t) (job : Job) :
    EqButShadows (s.setJob job) (t.setJob job) := by
  obtain ⟨sh, rfl⟩ := h; exact ⟨sh, rfl⟩

theorem setLstate (h : EqButShadows s t) (l : LState) :
    EqButShadows (s.setLstate l) (t.setLstate l) := by
  obtain ⟨sh, rfl⟩ := h; exact ⟨sh, rfl⟩

theorem setPpr (h : EqButShadows s t) (v : Word16) : EqButShadows (s.setPpr v) (t.setPpr v) := by
  obtain ⟨sh, rfl⟩ := h; exact ⟨sh, rfl⟩

theorem setTarget (h : EqButShadows s t) (b : Bool) (v : Word32) :
    EqButShadows (s.setTarget b v) (t.setTarget b v) := by
  obtain ⟨sh, rfl⟩ := h; exact ⟨sh, rfl⟩

theorem capWrite (h : EqButShadows s t) (w : Write) (r : CapResponse) :
    EqButShadows (s.capWrite w r) (t.capWrite w r) := by
  obtain ⟨sh, rfl⟩ := h; exact ⟨sh.record w r, rfl⟩

theorem respond (h : EqButShadows s t) (st : Status) (d : Word32) :
    EqButShadows (s.respond st d) (t.respond st d) := by
  obtain ⟨sh, rfl⟩ := h; exact ⟨sh, rfl⟩

theorem raise (h : EqButShadows s t) (st : Status) : EqButShadows (s.raise st) (t.raise st) :=
  h.respond st 0

theorem commit (h : EqButShadows s t) (k : Commit) : EqButShadows (s.commit k) (t.commit k) := by
  obtain ⟨sh, rfl⟩ := h; cases k <;> exact ⟨sh, rfl⟩

theorem finish (h : EqButShadows s t) (job : Job) :
    EqButShadows (s.finish job) (t.finish job) := by
  unfold State.finish
  split
  · exact (h.commit job.commit).respond .ok 0
  · exact h.respond .hardwareError _

theorem resetEvent (h : EqButShadows s t) : EqButShadows s.resetEvent t.resetEvent := by
  obtain ⟨sh, rfl⟩ := h; exact refl _

/-- Two runs that take the same branch on a condition differ in no more than the branch does. -/
theorem ite {c : Prop} [Decidable c] {s₁ s₂ t₁ t₂ : State} (h₁ : EqButShadows s₁ t₁)
    (h₂ : EqButShadows s₂ t₂) :
    EqButShadows (if c then s₁ else s₂) (if c then t₁ else t₂) := by
  split
  · exact h₁
  · exact h₂

theorem countEdge (h : EqButShadows s t) (p : Bool) :
    EqButShadows (s.countEdge p) (t.countEdge p) := by
  obtain ⟨sh, rfl⟩ := h
  exact .ite ⟨sh, rfl⟩ ⟨sh, rfl⟩

theorem params_eq (h : EqButShadows s t) : t.params = s.params := by
  obtain ⟨sh, rfl⟩ := h; rfl

theorem runJob (h : EqButShadows s t) (ds : List Draw) (job : Job) :
    EqButShadows (runJob ds job s) (runJob ds job t) := by
  induction ds generalizing job s t with
  | nil =>
    simp only [Machine.runJob]
    split
    · exact (h.setDraws []).finish job
    · exact (h.setDraws []).setJob job
  | cons d ds ih =>
    cases d with
    | edge p => exact ih (h.countEdge p) job
    | reset => exact (h.setDraws ds).resetEvent
    | answer r =>
      simp only [Machine.runJob, h.params_eq]
      split
      · exact (h.setDraws _).finish job
      · exact ih (h.capWrite _ r) _

theorem actuate (s : State) (sh : Shadows) (op : MuxOp) (k : Commit) :
    EqButShadows (s.actuate op k) ({ s with sh := sh }.actuate op k) := by
  have h : EqButShadows s { s with sh := sh } := ⟨sh, rfl⟩
  unfold State.actuate
  dsimp only
  split
  · exact h.raise .unsupportedOperation
  · exact h.runJob s.draws _

end EqButShadows

/-- A command at the port, once for all commands: it is enough that its effect reads no shadow. -/
theorem onCommandPort_reads_no_shadow {s t : State} {f : State → State} {sh : Shadows}
    (h : onCommandPort s f = .next t) (hf : EqButShadows (f s) (f { s with sh := sh })) :
    ∃ sh', onCommandPort { s with sh := sh } f = .next { t with sh := sh' } := by
  rcases onCommandPort_next h with ⟨hb, rfl⟩ | ⟨hb, rfl⟩
  · exact ⟨sh, onCommandPort_busy (s := { t with sh := sh }) hb f⟩
  · obtain ⟨sh', heq⟩ := hf
    exact ⟨sh', heq ▸ onCommandPort_idle (s := { s with sh := sh }) hb f⟩

/-- Settles O54: the port, the guards and the plan of an instruction read other registers, so both
runs take the same branches, and each branch carries the difference in the shadows along. -/
theorem noCommandReadsShadows : Obligations.NoCommandReadsShadows := by
  intro i s t sh h
  have hsh : EqButShadows s { s with sh := sh } := ⟨sh, rfl⟩
  cases i with
  | edge p =>
    cases h
    obtain ⟨sh', heq⟩ := hsh.countEdge p
    exact ⟨sh', congrArg _ heq⟩
  | initialise =>
    simp only [exec, execInitialise] at h
    exact onCommandPort_reads_no_shadow h (.respond (.ite (hsh.setLstate .init) hsh) .ok 0)
  | enable =>
    simp only [exec, execEnable] at h
    exact onCommandPort_reads_no_shadow h (.ite (.actuate s sh _ _) (hsh.raise _))
  | disable =>
    simp only [exec, execDisable] at h
    exact onCommandPort_reads_no_shadow h (.ite (hsh.raise _) (.actuate s sh _ _))
  | setSpeed | setDirection | stop | brake =>
    simp only [exec, execSetSpeed, execSetDirection, execStop, execBrake] at h
    exact onCommandPort_reads_no_shadow h (.ite (.actuate s sh _ _) (hsh.raise _))
  | setPpr p =>
    simp only [exec, execSetPpr] at h
    exact onCommandPort_reads_no_shadow h
      (.ite (.ite (hsh.raise _) ((hsh.setPpr _).respond _ _)) (hsh.raise _))
  | checkPpr =>
    simp only [exec, execCheckPpr] at h
    exact onCommandPort_reads_no_shadow h
      (.ite (.ite (hsh.raise _) (hsh.respond _ _)) (hsh.raise _))
  | setTarget | clearTarget =>
    simp only [exec, execSetTarget, execClearTarget] at h
    exact onCommandPort_reads_no_shadow h
      (.ite ((hsh.setTarget _ _).respond _ _) (hsh.raise _))
  | getPulseCount | checkTarget =>
    simp only [exec, execGetPulseCount, execCheckTarget] at h
    exact onCommandPort_reads_no_shadow h (.ite (hsh.respond _ _) (hsh.raise _))
  | getSpeed | getDirection | getCurrent | getVoltage | getTemperature | getFaultStatus =>
    simp only [exec, execGetSpeed, execGetDirection, execGetCurrent, execGetVoltage,
      execGetTemperature, execGetFaultStatus] at h
    exact onCommandPort_reads_no_shadow h (hsh.respond _ _)

end Sys2Proof.Machine

/-! ## The step and the edges inside a command (20_memory)

Which input a step takes, when no step is enabled, and that the edges drawn inside a command
disturb nothing of it but PULSE_COUNT. -/

namespace Sys2Proof.Machine

open Sys2Proof

/-! ### The input a step takes (R59, R60, R66) -/

theorem takeInput_of_decodes {s : State} {x : PortWord} {rest : List Input} {i : Instr}
    (hi : s.inbox = .port x :: rest) (hd : decodePort x = .ok i) :
    takeInput s = .run i (s.setInbox rest) := by
  simp [takeInput, hi, hd]

theorem takeInput_of_stuck {s : State} (hi : s.inbox = []) (hb : s.busy = true) :
    takeInput s = .settled (.fault .noEnabledStep) := by
  simp [takeInput, hi, hb]

/-- Settles O5: the step takes the next input, and runs what it decodes to. -/
theorem stepRunsTheDecodedInstruction : Obligations.StepRunsTheDecodedInstruction := by
  intro s x rest i hwait hi hd
  rw [step, turn_waiting hwait, takeInput_of_decodes hi hd]
  rfl

/-- Settles O9: the command in execution cannot go on, so the step looks for an input, and there is
none. -/
theorem silentAdapterLeavesNoEnabledStep : Obligations.SilentAdapterLeavesNoEnabledStep := by
  intro s job w ws hj htodo hds hi
  have hwait : ∀ job', s.inFlight = some job' → s.draws = [] ∧ job'.todo ≠ [] := by
    intro job' hj'
    obtain rfl := Option.some.inj (hj.symm.trans hj')
    exact ⟨hds, by simp [htodo]⟩
  rw [step, turn_waiting hwait, takeInput_of_stuck hi (by simp [State.busy, hj])]

/-! ### Only a write plan draws events

An instruction that runs no plan neither reads `draws` nor takes from it. -/

section NoPlan

variable {s t : State} {ds : List Draw} {f : State → State}

theorem onCommandPort_setDraws (h : onCommandPort s f = .next t)
    (hf : f (s.setDraws ds) = (f s).setDraws ds) :
    onCommandPort (s.setDraws ds) f = .next (t.setDraws ds) := by
  rcases onCommandPort_next h with ⟨hb, rfl⟩ | ⟨hb, rfl⟩
  · exact onCommandPort_busy (s := t.setDraws ds) hb f
  · exact hf ▸ onCommandPort_idle (s := s.setDraws ds) hb f

theorem withEncoder_setDraws (hf : f (s.setDraws ds) = (f s).setDraws ds) :
    (s.setDraws ds).withEncoder f = (s.withEncoder f).setDraws ds := by
  unfold State.withEncoder
  rw [State.setDraws_params]
  split
  · exact hf
  · rfl

theorem whenEnabled_setDraws
    (hf : s.lstate = .enabled → f (s.setDraws ds) = (f s).setDraws ds) :
    (s.setDraws ds).whenEnabled f = (s.whenEnabled f).setDraws ds := by
  unfold State.whenEnabled
  rw [State.setDraws_lstate]
  split
  · next hl => exact hf hl
  · rfl

theorem actuate_setDraws_of_no_plan {op : MuxOp} (h : plan s.params op = none) (k : Commit) :
    (s.setDraws ds).actuate op k = (s.actuate op k).setDraws ds := by
  simp only [State.actuate, State.setDraws_params, h]
  rfl

theorem countEdge_setDraws (p : Bool) :
    (s.setDraws ds).countEdge p = (s.countEdge p).setDraws ds := by
  simp only [countEdge_eq]
  rfl

/-- Two outcomes of a condition that both leave `draws` alone do so together. -/
theorem ite_setDraws {c : Prop} [Decidable c] {s₁ s₂ t₁ t₂ : State}
    (h₁ : c → t₁ = s₁.setDraws ds) (h₂ : ¬c → t₂ = s₂.setDraws ds) :
    (if c then t₁ else t₂) = (if c then s₁ else s₂).setDraws ds := by
  split
  · next hc => exact h₁ hc
  · next hc => exact h₂ hc

/-- An instruction without a write plan gives the same result whatever is drawn, and leaves what is
drawn to later commands. -/
theorem exec_setDraws_of_no_plan {i : Instr} (hp : acceptedPlan i s = none)
    (h : exec i s = .next t) (ds : List Draw) :
    exec i (s.setDraws ds) = .next (t.setDraws ds) := by
  cases i with
  | edge p =>
    cases h
    exact congrArg _ (countEdge_setDraws p)
  | initialise =>
    simp only [exec, execInitialise] at h ⊢
    refine onCommandPort_setDraws h ?_
    rw [State.setDraws_lstate]
    split <;> rfl
  | enable =>
    simp only [exec, execEnable] at h ⊢
    have hl : ¬(s.lstate = .init ∨ s.lstate = .disabled) := fun hl => by
      simp [acceptedPlan, hl, plan] at hp
    exact onCommandPort_setDraws h (ite_setDraws (fun hc => absurd hc hl) fun _ => rfl)
  | disable =>
    simp only [exec, execDisable] at h ⊢
    have hl : s.lstate = .uninit := by simpa [acceptedPlan, plan] using hp
    exact onCommandPort_setDraws h (ite_setDraws (fun _ => rfl) fun hc => absurd hl hc)
  | setSpeed | setDirection | stop | brake =>
    simp only [exec, execSetSpeed, execSetDirection, execStop, execBrake] at h ⊢
    refine onCommandPort_setDraws h (whenEnabled_setDraws fun hl => ?_)
    exact actuate_setDraws_of_no_plan (by simpa [acceptedPlan, hl] using hp) _
  | setPpr | checkPpr =>
    simp only [exec, execSetPpr, execCheckPpr] at h ⊢
    exact onCommandPort_setDraws h
      (withEncoder_setDraws (ite_setDraws (fun _ => rfl) fun _ => rfl))
  | getPulseCount | setTarget | clearTarget | checkTarget =>
    simp only [exec, execGetPulseCount, execSetTarget, execClearTarget, execCheckTarget] at h ⊢
    exact onCommandPort_setDraws h (withEncoder_setDraws rfl)
  | getSpeed | getDirection | getCurrent | getVoltage | getTemperature | getFaultStatus =>
    simp only [exec, execGetSpeed, execGetDirection, execGetCurrent, execGetVoltage,
      execGetTemperature, execGetFaultStatus] at h ⊢
    exact onCommandPort_setDraws h rfl

end NoPlan

/-! ### The edges inside a command (R60, R211) -/

/-- The state without what an edge may move: PULSE_COUNT and the events left. -/
def State.forgetEdges (s : State) : State := { s with pulseCount := 0, draws := [] }

theorem forgetEdges_eq_iff {s t : State} : s.forgetEdges = t.forgetEdges ↔
    { s with pulseCount := t.pulseCount, draws := t.draws } = t := by
  cases s; cases t; simp [State.forgetEdges]

@[simp] theorem forgetEdges_params (s : State) : s.forgetEdges.params = s.params := rfl

@[simp] theorem forgetEdges_countEdge (s : State) (p : Bool) :
    (s.countEdge p).forgetEdges = s.forgetEdges := by
  rw [countEdge_eq]; rfl

@[simp] theorem forgetEdges_setDraws (s : State) (ds : List Draw) :
    (s.setDraws ds).forgetEdges = s.forgetEdges := rfl

@[simp] theorem forgetEdges_setJob (s : State) (job : Job) :
    (s.setJob job).forgetEdges = s.forgetEdges.setJob job := rfl

@[simp] theorem forgetEdges_capWrite (s : State) (w : Write) (r : CapResponse) :
    (s.capWrite w r).forgetEdges = s.forgetEdges.capWrite w r := rfl

@[simp] theorem forgetEdges_resetEvent (s : State) :
    s.resetEvent.forgetEdges = s.forgetEdges.resetEvent := rfl

@[simp] theorem forgetEdges_finish (s : State) (job : Job) :
    (s.finish job).forgetEdges = s.forgetEdges.finish job := by
  obtain ⟨k, todo, _ | f⟩ := job
  · cases k <;> rfl
  · rfl

/-- Run without its edges, from a state that differs only in what edges move, a command in execution
comes to a state that differs only in that. -/
theorem runJob_without_edges (ds : List Draw) (job : Job) {s u : State}
    (h : u.forgetEdges = s.forgetEdges) :
    (runJob (ds.filter fun d => !isEdge d) job u).forgetEdges =
      (runJob ds job s).forgetEdges := by
  induction ds generalizing job s u with
  | nil =>
    simp only [List.filter_nil, runJob]
    split <;> simp [h]
  | cons d ds ih =>
    cases d with
    | edge p => exact ih job (h.trans (forgetEdges_countEdge s p).symm)
    | reset =>
      simp only [List.filter_cons, isEdge, Bool.not_false, if_true, runJob]
      simp [h]
    | answer r =>
      have hp : u.params = s.params := by simpa using congrArg State.params h
      simp only [List.filter_cons, isEdge, Bool.not_false, if_true, runJob, hp]
      split
      · simp [h]
      · exact ih _ (by simp [h])

theorem acceptedPlan_setDraws (i : Instr) (s : State) (ds : List Draw) :
    acceptedPlan i (s.setDraws ds) = acceptedPlan i s := by
  cases i <;> rfl

theorem acceptedCommit_setDraws (i : Instr) (s : State) (ds : List Draw) :
    acceptedCommit i (s.setDraws ds) = acceptedCommit i s := by
  cases i <;> rfl

/-- Settles O53: a busy port does nothing, a plan is run without its edges by
`runJob_without_edges`, and without a plan nothing is drawn. -/
theorem edgesDoNotDisturbACommand : Obligations.EdgesDoNotDisturbACommand := by
  intro i s t h
  simp only [← forgetEdges_eq_iff]
  rcases exec_cases h with ⟨p, rfl, _⟩ | ⟨hi, hb, rfl⟩ | ⟨_, hb, ⟨ws, hp, rfl⟩ | ⟨hp, _⟩ | ⟨hp, _⟩⟩
  · exact ⟨_, exec_setDraws_of_no_plan rfl h _, rfl⟩
  · exact ⟨_, noCommandWhileBusy i (t.setDraws _) hi hb, rfl⟩
  · refine ⟨_, exec_of_plan (s := s.setDraws _) hb ((acceptedPlan_setDraws i s _).trans hp), ?_⟩
    rw [acceptedCommit_setDraws]
    exact runJob_without_edges s.draws _ (forgetEdges_setDraws s _)
  · exact ⟨_, exec_setDraws_of_no_plan hp h _, rfl⟩
  · exact ⟨_, exec_setDraws_of_no_plan hp h _, rfl⟩

end Sys2Proof.Machine

/-! ## The encoding (30_encoding)

Decoding and encoding are inverse to each other, which words the decoder refuses, and how many
responses a word on the command port gets. -/

namespace Sys2Proof

/-! ### An operand is read back from its ARG (R73) -/

theorem argInt_low {v : Int} (hv : fitsI16 v) : ((argInt v).extractLsb' 0 16).toInt = v := by
  obtain ⟨hlow, hhigh⟩ := hv
  have h : (argInt v).extractLsb' 0 16 = BitVec.ofInt 16 v := by
    apply BitVec.eq_of_toNat_eq
    simp [argInt, BitVec.toNat_ofInt]
    omega
  rw [h, BitVec.toInt_ofInt_eq_self] <;> omega

theorem operandNone_zero (i : Instr) : operandNone 0 i = .ok i := rfl

theorem operandS16_argInt {v : Int} (hv : fitsI16 v) (mk : Int → Instr) :
    operandS16 (argInt v) mk = .ok (mk v) := by
  have hlow := argInt_low hv
  have hext : argInt v = ((argInt v).extractLsb' 0 16).signExtend 32 := by
    rw [BitVec.signExtend, hlow, argInt]
  rw [operandS16, if_pos hext, hlow]

theorem operandBool_argBool (b : Bool) (mk : Bool → Instr) :
    operandBool (argBool b) mk = .ok (mk b) := by
  cases b <;> rfl

theorem operandS32_argInt {v : Int} (hv : fitsI32 v) (mk : Int → Instr) :
    operandS32 (argInt v) mk = .ok (mk v) := by
  obtain ⟨hlow, hhigh⟩ := hv
  rw [operandS32, argInt, BitVec.toInt_ofInt_eq_self] <;> omega

/-- Settles O1: the word's fields are the opcode and ARG it was assembled from (`decode_cmdWord`),
and each class reads its operand back. -/
theorem decodeOfEncode : Obligations.DecodeOfEncode := by
  intro i hwf
  cases i with
  | setSpeed v | setPpr v =>
    exact (decode_cmdWord _ _).trans (operandS16_argInt (of_decide_eq_true hwf) _)
  | setTarget v => exact (decode_cmdWord _ _).trans (operandS32_argInt (of_decide_eq_true hwf) _)
  | setDirection fwd => exact (decode_cmdWord _ _).trans (operandBool_argBool fwd _)
  | edge p => cases p <;> rfl
  | _ => exact (decode_cmdWord _ _).trans (operandNone_zero _)

/-! ### An accepted ARG is the encoding of its operand (R73) -/

theorem operandNone_ok {arg : Word32} {i j : Instr} (h : operandNone arg i = .ok j) :
    j = i ∧ arg = 0 := by
  unfold operandNone at h
  split at h
  · next ha => cases h; exact ⟨rfl, ha⟩
  · cases h

theorem operandS16_ok {arg : Word32} {mk : Int → Instr} {j : Instr}
    (h : operandS16 arg mk = .ok j) : ∃ v, j = mk v ∧ arg = argInt v := by
  unfold operandS16 at h
  split at h
  · next ha => cases h; exact ⟨_, rfl, ha⟩
  · cases h

theorem argBool_bit_zero {arg : Word32} (h : arg.extractLsb' 1 31 = 0) :
    argBool (arg.getLsbD 0) = arg := by
  have hhigh : arg.toNat >>> 1 % 2 ^ 31 = 0 := by simpa using congrArg BitVec.toNat h
  have harg : arg = 0 ∨ arg = 1 := by bv_omega
  rcases harg with rfl | rfl <;> rfl

theorem operandBool_ok {arg : Word32} {mk : Bool → Instr} {j : Instr}
    (h : operandBool arg mk = .ok j) : ∃ b, j = mk b ∧ arg = argBool b := by
  unfold operandBool at h
  split at h
  · next ha => cases h; exact ⟨_, rfl, (argBool_bit_zero ha).symm⟩
  · cases h

theorem operandS32_ok {arg : Word32} {mk : Int → Instr} {j : Instr}
    (h : operandS32 arg mk = .ok j) : ∃ v, j = mk v ∧ arg = argInt v := by
  cases h
  exact ⟨_, rfl, BitVec.ofInt_toInt.symm⟩

/-- What an opcode and an ARG decode to is encoded with that opcode and that ARG. -/
theorem encode_of_decodeOp {op : Nat} {arg : Word32} {i : Instr}
    (h : decodeOp op arg = .ok i) : encode i = .cmd (cmdWord (BitVec.ofNat 8 op) arg) := by
  unfold decodeOp at h
  split at h
  case h_4 | h_8 => obtain ⟨v, rfl, rfl⟩ := operandS16_ok h; rfl
  case h_5 => obtain ⟨b, rfl, rfl⟩ := operandBool_ok h; rfl
  case h_11 => obtain ⟨v, rfl, rfl⟩ := operandS32_ok h; rfl
  case h_20 => cases h
  all_goals obtain ⟨rfl, rfl⟩ := operandNone_ok h; rfl

/-- A word with RSV = 0 is assembled from its OP and its ARG (R71). -/
theorem cmdWord_of_fields {w : CmdWord} (h : rsvField w = 0) :
    cmdWord (opField w) (argField w) = w := by
  have hzero : (0#24) = rsvField w := h.symm
  rw [cmdWord, hzero, opField, rsvField, argField,
    BitVec.extractLsb'_append_extractLsb'_eq_extractLsb' (by decide : 56 = 32 + 24),
    BitVec.extractLsb'_append_extractLsb'_eq_extractLsb' (by decide : 32 = 0 + 32),
    BitVec.extractLsb'_eq_self]

theorem encode_of_decode {w : CmdWord} {i : Instr} (h : decode w = .ok i) :
    encode i = .cmd w := by
  unfold decode at h
  split at h
  · next hrsv =>
    rw [encode_of_decodeOp h, BitVec.ofNat_toNat, BitVec.setWidth_eq, cmdWord_of_fields hrsv]
  · cases h

theorem encode_decodeEdge (p : BitVec 1) : encode (decodeEdge p) = .edge p := by
  decide +revert

/-- Settles O2: well-formedness is `decodePort_wellFormed`, and each port's transaction is assembled
again from what it decodes to. -/
theorem encodeOfDecode : Obligations.EncodeOfDecode := by
  intro x i h
  refine ⟨Machine.decodePort_wellFormed h, ?_⟩
  cases x with
  | cmd w => exact encode_of_decode h
  | edge p => cases h; exact encode_decodeEdge p

/-! ### What the decoder refuses (R72, R73, R75) -/

/-- A check that answers `e` where `p` fails refuses exactly there. -/
theorem check_refuses {p : Prop} [Decidable p] {i : Instr} {e : Illegal} :
    (∃ e', (if p then .ok i else .error e : Except Illegal Instr) = .error e') ↔ ¬p := by
  by_cases hp : p <;> simp [hp]

theorem operandNone_refuses {arg : Word32} {i : Instr} :
    (∃ e, operandNone arg i = .error e) ↔ arg ≠ 0 := check_refuses

theorem operandS16_refuses {arg : Word32} {mk : Int → Instr} :
    (∃ e, operandS16 arg mk = .error e) ↔ arg ≠ (arg.extractLsb' 0 16).signExtend 32 :=
  check_refuses

theorem operandBool_refuses {arg : Word32} {mk : Bool → Instr} :
    (∃ e, operandBool arg mk = .error e) ↔ arg.extractLsb' 1 31 ≠ 0 := check_refuses

theorem operandS32_accepts {arg : Word32} {mk : Int → Instr} :
    ¬ ∃ e, operandS32 arg mk = .error e := nofun

/-- The opcodes of R74. -/
def opcodes : List Nat := [1, 2, 3, 4, 5, 6, 7, 16, 17, 18, 19, 20, 21, 32, 33, 34, 35, 36, 37]

/-- The opcodes of class NONE (R74). -/
def noneOpcodes : List Nat := [1, 2, 3, 6, 7, 17, 18, 20, 21, 32, 33, 34, 35, 36, 37]

theorem decodeOp_refuses (op : Nat) (arg : Word32) :
    (∃ e, decodeOp op arg = .error e) ↔
      op ∉ opcodes ∨ (op ∈ noneOpcodes ∧ arg ≠ 0) ∨
      (op ∈ [4, 16] ∧ arg ≠ (arg.extractLsb' 0 16).signExtend 32) ∨
      (op = 5 ∧ arg.extractLsb' 1 31 ≠ 0) := by
  unfold decodeOp
  split
  case h_4 | h_8 => rw [operandS16_refuses]; simp [opcodes, noneOpcodes]
  case h_5 => rw [operandBool_refuses]; simp [opcodes, noneOpcodes]
  case h_11 => simp [operandS32_accepts, opcodes, noneOpcodes]
  case h_20 => simp_all [opcodes]
  all_goals rw [operandNone_refuses]; simp [opcodes, noneOpcodes]

theorem decode_refuses (w : CmdWord) :
    (∃ e, decode w = .error e) ↔
      rsvField w ≠ 0 ∨ ∃ e, decodeOp (opField w).toNat (argField w) = .error e := by
  unfold decode; split <;> simp_all

/-- Settles O3: the RSV check comes first, then the opcode, then the ARG of its class. -/
theorem illegalWordsAreExactlyThese : Obligations.IllegalWordsAreExactlyThese := by
  intro w
  rw [decode_refuses, decodeOp_refuses, argField, BitVec.extractLsb'_extractLsb'_of_le (by decide),
    BitVec.extractLsb'_extractLsb'_of_le (by decide)]
  rfl

/-! ### The worked encodings (R85, R86) -/

/-- Settles O4: each word is decoded by computation. -/
theorem workedEncodings : Obligations.WorkedEncodings :=
  ⟨rfl, rfl, rfl, rfl, rfl, rfl, rfl, rfl, rfl, rfl, rfl, rfl⟩

end Sys2Proof

namespace Sys2Proof.Machine

open Sys2Proof

/-! ### The responses on the command port (R72, R77) -/

theorem takeInput_of_refused {s : State} {x : PortWord} {rest : List Input} {e : Illegal}
    (hi : s.inbox = .port x :: rest) (hd : decodePort x = .error e) :
    takeInput s = .settled (execIllegal (s.setInbox rest)) := by
  simp [takeInput, hi, hd]

/-- Settles O7: the step takes the word, and an idle port answers it by a response alone. -/
theorem illegalWordIsAnsweredIllegalCommand : Obligations.IllegalWordIsAnsweredIllegalCommand := by
  intro s w rest e hb hi hd
  have hidle : (s.setInbox rest).busy = false := hb
  rw [step, turn_idle hb, takeInput_of_refused hi hd]
  simp only [execIllegal, onCommandPort_idle hidle, State.raise,
    respond_idle (busy_eq_false_iff.mp hidle)]
  rfl

/-- How a command accepted in `s` comes out at `t`, with the events `ds` to come: answered once, or
waiting for an adapter, or abandoned by a reset among `ds`. -/
def CommandOutcome (s : State) (ds : List Draw) (t : State) : Prop :=
  (t.busy = false ∧ ∃ r, t.responses = s.responses ++ [r]) ∨
  (t.busy = true ∧ t.responses = s.responses ∧ t.draws = []) ∨
  (.reset ∈ ds ∧ t = afterReset s t.trace t.draws)

/-- An event that is no reset and leaves parameters, inputs and responses as they were leaves the
outcome as it was. -/
theorem CommandOutcome.of_later {s s' t : State} {ds : List Draw} {d : Draw}
    (hparams : s'.params = s.params) (hinbox : s'.inbox = s.inbox)
    (hresponses : s'.responses = s.responses) (h : CommandOutcome s' ds t) :
    CommandOutcome s (d :: ds) t := by
  rcases h with ⟨hb, r, hr⟩ | ⟨hb, hr, hds⟩ | ⟨hmem, ht⟩
  · exact .inl ⟨hb, r, hresponses ▸ hr⟩
  · exact .inr (.inl ⟨hb, hresponses ▸ hr, hds⟩)
  · refine .inr (.inr ⟨List.mem_cons_of_mem d hmem, ?_⟩)
    rwa [afterReset, hparams, hinbox, hresponses] at ht

theorem CommandOutcome.respond {s u : State} (h : u.responses = s.responses) (ds : List Draw)
    (st : Status) (d : Word32) : CommandOutcome s ds (u.respond st d) :=
  .inl ⟨rfl, ⟨st, d⟩, congrArg (· ++ [_]) h⟩

theorem commit_responses (s : State) (k : Commit) : (s.commit k).responses = s.responses := by
  cases k <;> rfl

theorem CommandOutcome.finish {s u : State} (h : u.responses = s.responses) (ds : List Draw)
    (job : Job) : CommandOutcome s ds (u.finish job) := by
  unfold State.finish
  split
  · exact .respond ((commit_responses u job.commit).trans h) ds _ _
  · exact .respond h ds _ _

theorem runJob_outcome (ds : List Draw) (job : Job) (s : State) :
    CommandOutcome s ds (runJob ds job s) := by
  induction ds generalizing job s with
  | nil =>
    rw [runJob]
    split
    · exact .finish rfl _ _
    · exact .inr (.inl ⟨rfl, rfl, rfl⟩)
  | cons d ds ih =>
    cases d with
    | edge p =>
      exact (ih job _).of_later (countEdge_params s p) (by simp [countEdge_eq])
        (by simp [countEdge_eq])
    | reset => exact .inr (.inr ⟨List.mem_cons_self, rfl⟩)
    | answer r =>
      rw [runJob]
      split
      · exact .finish rfl _ _
      · exact (ih _ _).of_later rfl rfl rfl

theorem QuickUpdate.responses_eq {i : Instr} {s u : State} (h : QuickUpdate i s u) :
    u.responses = s.responses := by
  cases h <;> rfl

/-- Settles O11: without a plan a command is answered at once, and with one it comes out as
`runJob_outcome` says. -/
theorem oneResponseUnlessWaitingOrReset : Obligations.OneResponseUnlessWaitingOrReset := by
  intro i s t hi hb h
  change CommandOutcome s s.draws t
  rcases exec_cases h with ⟨p, rfl, _⟩ | ⟨_, hb', _⟩ | ⟨_, _, ⟨ws, _, rfl⟩ | ⟨_, st, _, _, rfl⟩ |
    ⟨_, u, d, hu, rfl⟩⟩
  · cases hi
  · simp [hb] at hb'
  · exact runJob_outcome s.draws _ s
  · exact .respond rfl _ st 0
  · exact .respond hu.responses_eq _ .ok d

end Sys2Proof.Machine

/-! ## The mapper, the mux and the execution of a plan (40_actuation)

What the mapper and the mux compute, and what a plan in execution does to the outputs: the writes
after a failure, the lines they leave, and how many writes one command issues. -/

namespace Sys2Proof.Machine

open Sys2Proof

/-! ### The mapper (R100 to R102) -/

theorem clamp_bounds (m : Nat) (v : Int) : -(m : Int) ≤ clamp m v ∧ clamp m v ≤ m := by
  unfold clamp; omega

theorem clamp_of_mem {m : Nat} {v : Int} (hlo : -(m : Int) ≤ v) (hhi : v ≤ m) : clamp m v = v := by
  unfold clamp; omega

theorem clamp_of_ge {m : Nat} {v : Int} (h : (m : Int) ≤ v) : clamp m v = m := by
  unfold clamp; omega

theorem clamp_of_le {m : Nat} {v : Int} (h : v ≤ -(m : Int)) : clamp m v = -(m : Int) := by
  unfold clamp; omega

/-- The magnitude of an i16 value fits a duty. -/
theorem mag_toNat {c : Int} (hc : c.natAbs ≤ 32767) : (mag c).toNat = c.natAbs := by
  rw [mag, BitVec.toNat_ofNat, Nat.mod_eq_of_lt]; omega

theorem mag_eq_ofInt_abs (c : Int) : mag c = BitVec.ofInt 16 |c| := by
  rw [Int.abs_eq_natAbs, BitVec.ofInt_natCast, mag]

theorem mag_ne_zero {p : Params} {c : Int} (hc : c.natAbs ≤ p.maxDuty) (h0 : c ≠ 0) :
    mag c ≠ 0 := by
  intro hz
  have hval := mag_toNat (hc.trans p.maxDuty_le)
  rw [hz] at hval
  exact h0 (Int.natAbs_eq_zero.mp hval.symm)

/-- Settles O15: the clamp is a cut at both bounds, and what it leaves fits 16 bits. -/
theorem mapperClampsAndSplits : Obligations.MapperClampsAndSplits := by
  intro m v _ hm
  have habs := clamp_natAbs_le m v
  have hmag : (mag (clamp m v)).toNat = (clamp m v).natAbs := mag_toNat (habs.trans hm)
  obtain ⟨hlo, hhi⟩ := clamp_bounds m v
  refine ⟨rfl, hlo, hhi, clamp_of_mem, decide_eq_true_iff, ?_, hmag ▸ habs⟩
  rw [hmag, Int.abs_eq_natAbs]

/-- SET_SPEED sees its operand through the clamp only (R151). -/
theorem exec_setSpeed_congr {s : State} {v u : Int}
    (h : clamp s.params.maxDuty v = clamp s.params.maxDuty u) :
    exec (.setSpeed v) s = exec (.setSpeed u) s := by
  simp only [exec, execSetSpeed, onCommandPort, State.whenEnabled, h]

/-- Settles O30: at and beyond a bound the clamp is that bound. -/
theorem overrangeSpeedIsTheCeiling : Obligations.OverrangeSpeedIsTheCeiling := by
  intro s v
  constructor
  · intro h
    exact exec_setSpeed_congr ((clamp_of_ge h).trans (clamp_of_ge le_rfl).symm)
  · intro h
    exact exec_setSpeed_congr ((clamp_of_le h).trans (clamp_of_le le_rfl).symm)

/-! ### The plans of the mux (R103 to R112) -/

theorem plan_apply_zero (p : Params) : plan p (.apply 0) = some (coastPlan p.mode) := rfl

theorem plan_apply_ne_zero (p : Params) {c : Int} (h : c ≠ 0) :
    plan p (.apply c) = some (drivePlan p.mode c) := by
  simp [plan, h]

/-- The channel `Apply(c)` zeroes (R107, R108). -/
def idleChannel (c : Int) : Channel := if 0 < c then .pwm1 else .pwm0

/-- The channel `Apply(c)` drives (R107, R108). -/
def drivenChannel (c : Int) : Channel := if 0 < c then .pwm0 else .pwm1

theorem drivePlan_dualPwm (c : Int) : drivePlan .dualPwm c =
    [.duty (idleChannel c) 0, .duty (drivenChannel c) (mag c), .level .en0 true,
      .level .en1 true] := by
  by_cases h : 0 < c <;> simp [drivePlan, idleChannel, drivenChannel, h]

theorem drivenChannel_ne_idleChannel (c : Int) : drivenChannel c ≠ idleChannel c := by
  unfold drivenChannel idleChannel; split <;> decide

/-- Settles O16: each clause is the equation of the plan for one mode and the sign of the speed. -/
theorem planOfEveryModeAndOperation : Obligations.PlanOfEveryModeAndOperation := by
  intro p c _ _
  refine ⟨fun hm => ⟨?_, ?_, fun h0 => ?_⟩, fun hm => ⟨?_, ?_, fun hpos => ?_, fun hneg => ?_⟩, rfl⟩
  · simp [plan, coastPlan, hm]
  · simp [plan, brakePlan, hm]
  · simp [plan_apply_ne_zero p h0, drivePlan, hm, mag_eq_ofInt_abs]
  · simp [plan, coastPlan, hm]
  · simp [plan, brakePlan, hm]
  · rw [plan_apply_ne_zero p hpos.ne', hm, drivePlan_dualPwm, mag_eq_ofInt_abs, abs_of_pos hpos]
    simp [idleChannel, drivenChannel, hpos]
  · rw [plan_apply_ne_zero p hneg.ne, hm, drivePlan_dualPwm, mag_eq_ofInt_abs, abs_of_neg hneg]
    simp [idleChannel, drivenChannel, hneg.le]

/-! ### The enable policy of DUAL_PWM (R111) -/

/-- The enable policy for one line: asserted, and not deasserted, by a plan that leaves a nonzero
duty; the other way round in a plan that leaves none (R111). -/
def EnablePolicy (ws : List Write) (e : EnLine) : Prop :=
  ((∃ c v, Write.duty c v ∈ ws ∧ v ≠ 0) → Write.level e true ∈ ws ∧ Write.level e false ∉ ws) ∧
  ((∀ c v, Write.duty c v ∈ ws → v = 0) → Write.level e false ∈ ws ∧ Write.level e true ∉ ws)

theorem coastPlan_enablePolicy (e : EnLine) : EnablePolicy (coastPlan .dualPwm) e := by
  constructor
  · rintro ⟨c, v, hmem, hv⟩
    have hzero : v = 0 := by cases c <;> simpa [coastPlan] using hmem
    exact absurd hzero hv
  · intro _
    cases e <;> simp [coastPlan]

/-- Two duties, the second nonzero, then both assertions: the shape of every plan that drives. -/
theorem driving_enablePolicy (a b : Channel) (x : Word16) {y : Word16} (hy : y ≠ 0) (e : EnLine) :
    EnablePolicy [.duty a x, .duty b y, .level .en0 true, .level .en1 true] e := by
  constructor
  · intro _
    cases e <;> simp
  · intro hzero
    exact absurd (hzero b y (by simp)) hy

theorem maxDuty_ofNat_ne_zero (p : Params) : BitVec.ofNat 16 p.maxDuty ≠ 0 := by
  have hpos := p.maxDuty_pos
  exact mag_ne_zero (p := p) (c := p.maxDuty) le_rfl (by omega)

/-- Settles O17: a coast plan has no nonzero duty, and every other plan drives. -/
theorem enablePolicyOfDualPwm : Obligations.EnablePolicyOfDualPwm := by
  intro p op ws hm hp hc e
  change EnablePolicy ws e
  cases op with
  | apply c =>
    obtain ⟨hlo, hhi⟩ := hc c rfl
    by_cases h0 : c = 0
    · subst h0
      rw [plan_apply_zero, hm] at hp
      cases hp
      exact coastPlan_enablePolicy e
    · rw [plan_apply_ne_zero p h0, hm, drivePlan_dualPwm] at hp
      cases hp
      exact driving_enablePolicy _ _ _ (mag_ne_zero (p := p) (by omega) h0) e
  | coast =>
    simp only [plan, hm] at hp
    cases hp
    exact coastPlan_enablePolicy e
  | brake =>
    simp only [plan, brakePlan, hm] at hp
    cases hp
    exact driving_enablePolicy _ _ _ (maxDuty_ofNat_ne_zero p) e

/-! ### At most one channel is driven (R103) -/

/-- Writes that are no duty of a channel leave its shadow. -/
theorem Shadows.recordAll_channel_unwritten {c : Channel} {xs : List Transaction}
    (h : ∀ x ∈ xs, ∀ v, x.write ≠ .duty c v) (sh : Shadows) :
    (sh.recordAll xs).channel c = sh.channel c := by
  induction xs generalizing sh with
  | nil => rfl
  | cons x xs ih =>
    obtain ⟨hx, hxs⟩ := List.forall_mem_cons.mp h
    rw [Shadows.recordAll_cons, ih hxs, Shadows.record_channel]
    split
    · next c' v hw =>
      have hne : c' ≠ c := fun heq => hx v (heq ▸ hw)
      rw [if_neg hne]
    · rfl

/-- From the first Ok answer of a drive plan on, the idle channel is known to be at 0. -/
theorem idleChannel_zero_of_drivePlan (c : Int) {k : Nat} (hk : 1 ≤ k) (sh : Shadows) :
    (sh.recordAll (okTrace ((drivePlan .dualPwm c).take k))).channel (idleChannel c) =
      .known 0 := by
  obtain ⟨k, rfl⟩ := Nat.exists_eq_add_of_le' hk
  have hrest : ∀ w ∈ [.duty (drivenChannel c) (mag c), .level .en0 true, .level .en1 true],
      ∀ v, w ≠ Write.duty (idleChannel c) v := by
    simp [drivenChannel_ne_idleChannel]
  rw [drivePlan_dualPwm, List.take_succ_cons, okTrace, List.map_cons, Shadows.recordAll_cons,
    Shadows.recordAll_channel_unwritten]
  · simp [Shadows.record_channel, shadowAfter]
  · intro x hx
    obtain ⟨w, hw, rfl⟩ := List.mem_map.mp hx
    exact hrest w (List.mem_of_mem_take hw)

/-- Settles O18: the first write of the plan zeroes the idle channel, and no later one writes it. -/
theorem drivingNeverLeavesBothChannelsOn : Obligations.DrivingNeverLeavesBothChannelsOn := by
  intro p c ws k sh a b hm h0 hp hk ha hb
  rw [plan_apply_ne_zero p h0, hm] at hp
  cases hp
  have hidle := idleChannel_zero_of_drivePlan c hk sh
  cases hch : idleChannel c with
  | pwm0 =>
    rw [hch, Shadows.channel, ha] at hidle
    exact .inl (Shadow.known.inj hidle)
  | pwm1 =>
    rw [hch, Shadows.channel, hb] at hidle
    exact .inr (Shadow.known.inj hidle)

/-! ### The unwind after a failed write (R113 to R115) -/

theorem Shadows.recordAll_append (sh : Shadows) (xs ys : List Transaction) :
    sh.recordAll (xs ++ ys) = (sh.recordAll xs).recordAll ys :=
  List.foldl_append

/-- The state after the answered writes `xs`: the shadows and the trace follow them (R56). -/
def State.recordAll (s : State) (xs : List Transaction) : State :=
  { s with sh := s.sh.recordAll xs, trace := s.trace ++ xs }

theorem State.capWrite_eq_recordAll (s : State) (w : Write) (r : CapResponse) :
    s.capWrite w r = s.recordAll [⟨w, r⟩] := rfl

theorem State.recordAll_recordAll (s : State) (xs ys : List Transaction) :
    (s.recordAll xs).recordAll ys = s.recordAll (xs ++ ys) := by
  simp [State.recordAll, Shadows.recordAll_append]

/-- The first failure of a command: Ok answers up to it, the Err, and the answers of the unwind, then
the response with that failure (R113, R114). -/
theorem runJob_failedWrite (pre post : List Write) (w : Write) (code : Word16)
    {us : List CapResponse} {rest : List Draw} (k : Commit) (s : State)
    (hlen : us.length = (unwindWrites s.params.mode w).length) (hq : Quiet rest = true) :
    runJob (answersOk pre.length ++ .answer (.err code) :: (us.map .answer ++ rest))
        ⟨k, pre ++ w :: post, none⟩ s =
      ((s.recordAll (okTrace pre ++ ⟨w, .err code⟩ ::
          List.zipWith Transaction.mk (unwindWrites s.params.mode w) us)).setDraws rest).respond
        .hardwareError (failureData ⟨w.target, code⟩) := by
  have herr (u : State) :
      runJob (.answer (.err code) :: (us.map .answer ++ rest)) ⟨k, w :: post, none⟩ u =
        runJob (us.map .answer ++ rest) ⟨k, unwindWrites u.params.mode w, some ⟨w.target, code⟩⟩
          (u.capWrite w (.err code)) := rfl
  rw [runJob_answersOk, herr, runJob_unwind _ _ _ _ _ _ hlen, runJob_done hq _ _ rfl]
  change (((((s.recordAll _).capWrite _ _).recordAll _).setDraws rest).respond _ _) = _
  rw [State.capWrite_eq_recordAll, State.recordAll_recordAll, State.recordAll_recordAll,
    List.singleton_append]

/-- Settles O33: an accepted command runs its plan, and the first Err in it leads to the response of
`runJob_failedWrite`. -/
theorem failedWriteUnwinds : Obligations.FailedWriteUnwinds := by
  intro i s pre post w code us rest hb hp hlen hq hds
  refine ⟨_, rfl, ?_⟩
  rw [exec_of_plan hb hp, hds, runJob_failedWrite pre post w code _ s hlen hq, respond_idle]
  · rfl
  · exact busy_eq_false_iff.mp hb

/-! ### No line stays asserted after a HardwareError (R117) -/

/-- Writes left to do that will have deasserted every line: no assertion is among them, and each line
of the mode has its deassertion among them or is not known to be asserted. -/
def WillDeassert (m : Mode) (todo : List Write) (sh : Shadows) : Prop :=
  (∀ e, .level e true ∉ todo) ∧
  ∀ e ∈ ens m, .level e false ∈ todo ∨ sh.line e ≠ .known true

/-- The unwind deasserts every line but the one whose deassertion just failed, which is now
UNKNOWN (R114, R115). -/
theorem WillDeassert.unwind (m : Mode) (w : Write) (code : Word16) (sh : Shadows) :
    WillDeassert m (unwindWrites m w) (sh.record w (.err code)) := by
  refine ⟨fun e hmem => ?_, fun e he => ?_⟩
  · obtain ⟨⟨_, _, heq⟩, _⟩ := mem_unwindWrites.mp hmem
    cases heq
  · by_cases hw : .level e false = w
    · subst hw
      exact .inr (by simp [Shadows.record_line, shadowAfter])
    · exact .inl (mem_unwindWrites.mpr ⟨⟨e, he, rfl⟩, hw⟩)

/-- Whatever the answer, the next write keeps the promise. -/
theorem WillDeassert.answered {m : Mode} {w : Write} {rest : List Write} {sh : Shadows}
    (h : WillDeassert m (w :: rest) sh) (r : CapResponse) :
    WillDeassert m rest (sh.record w r) := by
  obtain ⟨hno, hoff⟩ := h
  refine ⟨fun e hmem => hno e (List.mem_cons_of_mem w hmem), fun e he => ?_⟩
  rcases hoff e he with hmem | hsh
  · rcases List.mem_cons.mp hmem with rfl | hmem
    · exact .inr (by cases r <;> simp [Shadows.record_line, shadowAfter])
    · exact .inl hmem
  · exact .inr (Shadows.record_line_ne_true r (fun hw => hno e (hw ▸ List.mem_cons_self)) hsh)

theorem finish_of_no_failure {job : Job} (h : job.failed = none) (s : State) :
    s.finish job = (s.commit job.commit).respond .ok 0 := by
  simp [State.finish, h]

theorem finish_of_failure {job : Job} {f : Failure} (h : job.failed = some f) (s : State) :
    s.finish job = s.respond .hardwareError (failureData f) := by
  simp [State.finish, h]

@[simp] theorem countEdge_responses (s : State) (p : Bool) :
    (s.countEdge p).responses = s.responses := by
  simp [countEdge_eq]

@[simp] theorem countEdge_sh (s : State) (p : Bool) : (s.countEdge p).sh = s.sh := by
  simp [countEdge_eq]

/-- No enable line of the mode is known to be asserted, if the one response added since the
responses `rs` is a HardwareError. -/
def LinesOffOnHardwareError (m : Mode) (rs : List Response) (t : State) : Prop :=
  ∀ d, t.responses = rs ++ [⟨.hardwareError, d⟩] → ∀ e ∈ ens m, t.sh.line e ≠ .known true

theorem runJob_linesOffOnHardwareError (ds : List Draw) {job : Job} (hf : job.failed = none)
    (s : State) : LinesOffOnHardwareError s.params.mode s.responses (runJob ds job s) := by
  refine runJob_induction
    (P := fun job u => u.params = s.params ∧ u.responses = s.responses ∧
      (job.failed ≠ none → WillDeassert s.params.mode job.todo u.sh))
    ?edge ?answer ?finish ?wait ?reset ds job s ⟨rfl, rfl, fun h => absurd hf h⟩
  case edge =>
    rintro job u p ⟨hp, hr, hoff⟩
    exact ⟨by simpa using hp, by simpa using hr, by simpa using hoff⟩
  case answer =>
    rintro job u w rest r ht ⟨hp, hr, hoff⟩
    refine ⟨hp, hr, ?_⟩
    rcases Job.answered_cases job u.params.mode w rest r with ⟨code, _, rfl, ha⟩ | ⟨_, ha⟩ <;>
      rw [ha]
    · intro _
      rw [hp]
      exact WillDeassert.unwind _ w code _
    · exact fun hf => (ht ▸ hoff hf).answered r
  case finish =>
    rintro job u ds ht ⟨_, hr, hoff⟩ d hd e he
    cases hf : job.failed with
    | none => simp [finish_of_no_failure hf, commit_responses, hr] at hd
    | some f =>
      obtain ⟨_, hlines⟩ := hoff (by simp [hf])
      have hline := (hlines e he).resolve_left (by simp [ht])
      simpa [finish_of_failure hf] using hline
  case wait =>
    rintro job u _ ⟨_, hr, _⟩ d hd
    simp [hr] at hd
  case reset =>
    rintro job u ds ⟨_, hr, _⟩ d hd
    simp [hr] at hd

/-- Settles O34: only a plan ends in a HardwareError, and its unwind has deasserted every line or left
it UNKNOWN. -/
theorem noLineKnownAssertedAfterHardwareError :
    Obligations.NoLineKnownAssertedAfterHardwareError := by
  intro i s t d hb h hresp
  rcases exec_cases h with ⟨p, _, rfl⟩ | ⟨_, hb', _⟩ | ⟨_, _, ⟨ws, _, rfl⟩ | ⟨_, st, _, hst, rfl⟩ |
    ⟨_, u, d', hu, rfl⟩⟩
  · simp at hresp
  · simp [hb] at hb'
  · exact runJob_linesOffOnHardwareError s.draws rfl s d hresp
  · simp [hst] at hresp
  · simp [hu.responses_eq] at hresp

/-! ### The writes of one command are bounded (R118) -/

/-- The most writes a command can still issue: those left, and an unwind unless it is running. -/
def Job.writesLeft (m : Mode) (job : Job) : Nat :=
  job.todo.length + if job.failed = none then (ens m).length else 0

theorem unwindWrites_length_le (m : Mode) (w : Write) :
    (unwindWrites m w).length ≤ (ens m).length :=
  (List.length_filter_le _ _).trans (List.length_map _).le

/-- An answered write uses up one of the writes left, failed or not. -/
theorem Job.answered_writesLeft {job : Job} {w : Write} {rest : List Write}
    (ht : job.todo = w :: rest) (m : Mode) (r : CapResponse) :
    (job.answered m w rest r).writesLeft m + 1 ≤ job.writesLeft m := by
  have hunwind := unwindWrites_length_le m w
  rcases Job.answered_cases job m w rest r with ⟨code, hf, _, ha⟩ | ⟨_, ha⟩ <;>
    rw [ha] <;> simp only [Job.writesLeft, ht, List.length_cons]
  · simp only [hf, reduceCtorEq, if_true, if_false]
    omega
  · omega

/-- From `s` to `t` the trace grew by at most `n` transactions. -/
def State.WritesAtMost (n : Nat) (s t : State) : Prop :=
  ∃ xs, t.trace = s.trace ++ xs ∧ xs.length ≤ n

theorem State.WritesAtMost.of_trace_eq {s t : State} (h : t.trace = s.trace) (n : Nat) :
    s.WritesAtMost n t :=
  ⟨[], by simpa using h, by simp⟩

theorem runJob_writesAtMost (ds : List Draw) (job : Job) (s : State) :
    s.WritesAtMost (job.writesLeft s.params.mode) (runJob ds job s) := by
  induction ds generalizing job s with
  | nil =>
    rw [runJob]
    split <;> exact .of_trace_eq (by simp) _
  | cons d ds ih =>
    cases d with
    | edge p =>
      simpa [State.WritesAtMost, runJob] using ih job (s.countEdge p)
    | reset => exact .of_trace_eq rfl _
    | answer r =>
      rw [runJob]
      split
      · exact .of_trace_eq (by simp) _
      · next w rest ht =>
        obtain ⟨xs, htrace, hlen⟩ := ih (job.answered s.params.mode w rest r) (s.capWrite w r)
        have hleft := Job.answered_writesLeft ht s.params.mode r
        refine ⟨⟨w, r⟩ :: xs, by simpa using htrace, ?_⟩
        rw [State.capWrite_params] at hlen
        rw [List.length_cons]
        omega

theorem planLength_add_ens (m : Mode) : planLength m + (ens m).length = writeBound m := by
  cases m <;> rfl

/-- Settles O37: a plan and one unwind, and no write where there is no plan. -/
theorem boundedWritesPerCommand : Obligations.BoundedWritesPerCommand := by
  intro i s t _ h
  change s.WritesAtMost (writeBound s.params.mode) t
  rcases exec_cases h with ⟨p, _, rfl⟩ | ⟨_, _, rfl⟩ | ⟨_, _, ⟨ws, hp, rfl⟩ | ⟨_, st, _, _, rfl⟩ |
    ⟨_, u, d, hu, rfl⟩⟩
  · exact .of_trace_eq (countEdge_trace s p) _
  · exact .of_trace_eq rfl _
  · obtain ⟨op, hplan⟩ := acceptedPlan_is_plan hp
    have hbound : Job.writesLeft s.params.mode ⟨acceptedCommit i s, ws, none⟩ =
        writeBound s.params.mode := by
      simp [Job.writesLeft, plan_length hplan, planLength_add_ens]
    exact hbound ▸ runJob_writesAtMost s.draws _ s
  · exact .of_trace_eq rfl _
  · exact .of_trace_eq hu.trace_eq _

end Sys2Proof.Machine

/-! ## The lifecycle commands (41_lifecycle)

What a command in execution can come to, and from it the results, the refusals and the frame of
INITIALIZE, ENABLE and DISABLE. -/

namespace Sys2Proof.Machine

open Sys2Proof

/-! ### What a command in execution comes to (R60, R134) -/

/-- `s` after the events `used`, with the events `rest` left, while its command is not answered: the
writes have moved the shadows and the trace, the edges the counter, and nothing else has moved. -/
def State.meanwhile (s : State) (used rest : List Draw) (sh : Shadows) (trace : List Transaction) :
    State :=
  { s with sh := sh, trace := trace, draws := rest,
           pulseCount := countDraws s.params s.pulseCount used }

@[simp] theorem State.meanwhile_responses (s : State) (used rest : List Draw) (sh : Shadows)
    (trace : List Transaction) : (s.meanwhile used rest sh trace).responses = s.responses := rfl

theorem State.meanwhile_countEdge (s : State) (p : Bool) (used rest : List Draw) (sh : Shadows)
    (trace : List Transaction) :
    (s.countEdge p).meanwhile used rest sh trace = s.meanwhile (.edge p :: used) rest sh trace := by
  rw [countEdge_eq]; rfl

theorem State.meanwhile_capWrite (s : State) (w : Write) (r : CapResponse) (used rest : List Draw)
    (sh : Shadows) (trace : List Transaction) :
    (s.capWrite w r).meanwhile used rest sh trace =
      s.meanwhile (.answer r :: used) rest sh trace := rfl

/-- How a command that commits `k` comes out at `t`, from `s` and after the events `used`: it commits
or reports its failure, or it waits for an adapter, or a reset among `used` abandons it. -/
def ComesTo (k : Commit) (s : State) (used rest : List Draw) (t : State) : Prop :=
  ∃ sh trace,
    (∃ job, job.commit = k ∧ t = (s.meanwhile used rest sh trace).finish job) ∨
    (∃ job, t = (s.meanwhile used rest sh trace).setJob job) ∨
    (.reset ∈ used ∧ t = (s.meanwhile used rest sh trace).resetEvent)

/-- An event whose effect `meanwhile` takes up leaves what the command comes to as it was. -/
theorem ComesTo.of_later {k : Commit} {s s' t : State} {d : Draw} {used rest : List Draw}
    (hd : ∀ sh trace,
      s'.meanwhile used rest sh trace = s.meanwhile (d :: used) rest sh trace)
    (h : ComesTo k s' used rest t) : ComesTo k s (d :: used) rest t := by
  obtain ⟨sh, trace, h⟩ := h
  rw [hd] at h
  exact ⟨sh, trace, h.imp_right (.imp_right (.imp_left (List.mem_cons_of_mem d)))⟩

/-- The inversion lemma of `runJob`. -/
theorem runJob_cases (ds : List Draw) (job : Job) (s : State) :
    ∃ used rest, ds = used ++ rest ∧ ComesTo job.commit s used rest (runJob ds job s) := by
  induction ds generalizing job s with
  | nil =>
    refine ⟨[], [], rfl, s.sh, s.trace, ?_⟩
    rw [runJob]
    split
    · exact .inl ⟨job, rfl, rfl⟩
    · exact .inr (.inl ⟨job, rfl⟩)
  | cons d ds ih =>
    cases d with
    | edge p =>
      obtain ⟨used, rest, rfl, h⟩ := ih job (s.countEdge p)
      exact ⟨_ :: used, rest, rfl, h.of_later (s.meanwhile_countEdge p used rest)⟩
    | reset =>
      exact ⟨[.reset], ds, rfl, s.sh, s.trace, .inr (.inr ⟨List.mem_cons_self, rfl⟩)⟩
    | answer r =>
      rw [runJob]
      split
      · exact ⟨[], _, rfl, s.sh, s.trace, .inl ⟨job, rfl, rfl⟩⟩
      · next w todo _ =>
        obtain ⟨used, rest, rfl, h⟩ := ih (job.answered s.params.mode w todo r) (s.capWrite w r)
        rw [Job.answered_commit] at h
        exact ⟨_ :: used, rest, rfl, h.of_later (s.meanwhile_capWrite w r used rest)⟩

/-! ### ENABLE and DISABLE with every write answered Ok (R132, R133, R116) -/

/-- An accepted command whose whole plan is answered Ok commits and answers OK (R134). -/
theorem exec_answeredOk {i : Instr} {s : State} {ws : List Write} {rest : List Draw}
    (hb : s.busy = false) (hp : acceptedPlan i s = some ws)
    (hds : s.draws = answersOk (planLength s.params.mode) ++ rest) (hq : Quiet rest = true) :
    exec i s = .next
      ((((s.recordAll (okTrace ws)).setDraws rest).commit (acceptedCommit i s)).respond .ok 0) := by
  obtain ⟨op, hplan⟩ := acceptedPlan_is_plan hp
  have hrun := runJob_answersOk ws [] rest (acceptedCommit i s) none s
  rw [List.append_nil] at hrun
  rw [exec_of_plan hb hp, hds, ← plan_length hplan, hrun, runJob_done hq _ _ rfl,
    finish_of_no_failure rfl]
  rfl

theorem Shadows.recordAll_coastPlan (m : Mode) (sh : Shadows) :
    sh.recordAll (okTrace (coastPlan m)) = coastShadows m sh := by
  cases m <;> rfl

/-- A coast plan answered Ok, for the command that enters `l` after it. -/
theorem exec_coast_answeredOk {i : Instr} {s : State} {l : LState} {rest : List Draw}
    (hb : s.busy = false) (hp : acceptedPlan i s = some (coastPlan s.params.mode))
    (hk : acceptedCommit i s = .enter l)
    (hds : s.draws = answersOk (planLength s.params.mode) ++ rest) (hq : Quiet rest = true) :
    exec i s = .next { s with
      lstate := l, sh := coastShadows s.params.mode s.sh, draws := rest,
      trace := s.trace ++ okTrace (coastPlan s.params.mode),
      responses := s.responses ++ [⟨.ok, 0⟩] } := by
  have hidle : (((s.recordAll (okTrace (coastPlan s.params.mode))).setDraws rest).commit
      (.enter l)).inFlight = none := busy_eq_false_iff.mp hb
  rw [exec_answeredOk hb hp hds hq, hk, respond_idle hidle, ← Shadows.recordAll_coastPlan]
  rfl

/-- Settles O20: from INIT or DISABLED the coast plan is accepted, and its commit is ENABLED. -/
theorem enableSucceeds : Obligations.EnableSucceeds := by
  intro s rest hb hl hds hq
  have hp : acceptedPlan .enable s = some (coastPlan s.params.mode) := if_pos hl
  exact exec_coast_answeredOk hb hp rfl hds hq

/-- Settles O21: outside UNINIT the coast plan is accepted, and its commit is DISABLED. -/
theorem disableSucceeds : Obligations.DisableSucceeds := by
  intro s rest hb hl hds hq
  have hp : acceptedPlan .disable s = some (coastPlan s.params.mode) := if_neg hl
  exact exec_coast_answeredOk hb hp rfl hds hq

/-! ### The frame of the lifecycle commands (R136) -/

/-- From `s` to `t` the parameters, the inputs on the ports and the registers no lifecycle command
writes are kept, and PULSE_COUNT has moved by the edges drawn meanwhile only. -/
def State.KeepsLifecycleFrame (s t : State) : Prop :=
  t.params = s.params ∧ t.lastSpeed = s.lastSpeed ∧ t.lastDir = s.lastDir ∧
  t.faultStatus = s.faultStatus ∧ t.ppr = s.ppr ∧ t.tgtValid = s.tgtValid ∧
  t.target = s.target ∧ t.inbox = s.inbox ∧
  ∃ used, s.draws = used ++ t.draws ∧ t.pulseCount = countDraws s.params s.pulseCount used

namespace State.KeepsLifecycleFrame

theorem meanwhile {s : State} {used rest : List Draw} (hds : s.draws = used ++ rest) (sh : Shadows)
    (trace : List Transaction) : s.KeepsLifecycleFrame (s.meanwhile used rest sh trace) :=
  ⟨rfl, rfl, rfl, rfl, rfl, rfl, rfl, rfl, used, hds, rfl⟩

theorem refl (s : State) : s.KeepsLifecycleFrame s :=
  meanwhile (used := []) rfl s.sh s.trace

variable {s t : State}

theorem respond (h : s.KeepsLifecycleFrame t) (st : Status) (d : Word32) :
    s.KeepsLifecycleFrame (t.respond st d) := h

theorem setJob (h : s.KeepsLifecycleFrame t) (job : Job) : s.KeepsLifecycleFrame (t.setJob job) := h

theorem setLstate (h : s.KeepsLifecycleFrame t) (l : LState) :
    s.KeepsLifecycleFrame (t.setLstate l) := h

/-- The response step of a command whose commit sets LSTATE or nothing. -/
theorem finish (h : s.KeepsLifecycleFrame t) {job : Job} (hk : ∀ v d, job.commit ≠ .motion v d) :
    s.KeepsLifecycleFrame (t.finish job) := by
  cases hf : job.failed with
  | some f => exact finish_of_failure hf t ▸ h.respond _ _
  | none =>
    rw [finish_of_no_failure hf]
    cases hc : job.commit with
    | enter l => exact (h.setLstate l).respond _ _
    | motion v d => exact absurd hc (hk v d)
    | nothing => exact h.respond _ _

end State.KeepsLifecycleFrame

theorem acceptedCommit_ne_motion {i : Instr} (hi : isMotion i = false) (s : State) (v : Word16)
    (d : Bool) : acceptedCommit i s ≠ .motion v d := by
  cases i <;> simp_all [acceptedCommit, isMotion]

theorem isMotion_of_isLifecycle {i : Instr} (hi : isLifecycle i = true) : isMotion i = false := by
  cases i <;> simp_all [isLifecycle, isMotion]

/-- Of the registers, a lifecycle command without a plan sets at most LSTATE. -/
theorem QuickUpdate.keepsLifecycleFrame {i : Instr} {s u : State} (h : QuickUpdate i s u)
    (hi : isLifecycle i = true) : s.KeepsLifecycleFrame u := by
  cases h with
  | same => exact .refl s
  | init => exact (State.KeepsLifecycleFrame.refl s).setLstate .init
  | ppr p h | target v h | clear h => subst h; cases hi

/-- A command in execution that commits no motion keeps the frame, unless a reset abandons it. -/
theorem runJob_keepsLifecycleFrame {s : State} (hds : .reset ∉ s.draws) {job : Job}
    (hk : ∀ v d, job.commit ≠ .motion v d) :
    s.KeepsLifecycleFrame (runJob s.draws job s) := by
  obtain ⟨used, rest, hsplit, sh, trace, ⟨job', hc, ht⟩ | ⟨job', ht⟩ | ⟨hreset, _⟩⟩ :=
    runJob_cases s.draws job s
  · exact ht ▸ (State.KeepsLifecycleFrame.meanwhile hsplit sh trace).finish (hc ▸ hk)
  · exact ht ▸ (State.KeepsLifecycleFrame.meanwhile hsplit sh trace).setJob job'
  · exact absurd (hsplit ▸ List.mem_append_left rest hreset) hds

/-- Settles O23: what a plan commits is no motion, and without a plan LSTATE alone may be set. -/
theorem lifecycleFrame : Obligations.LifecycleFrame := by
  intro i s t hi hds h
  change s.KeepsLifecycleFrame t
  rcases exec_cases h with ⟨p, rfl, _⟩ | ⟨_, _, rfl⟩ | ⟨_, _, ⟨ws, _, rfl⟩ | ⟨_, st, _, _, rfl⟩ |
    ⟨_, u, d, hu, rfl⟩⟩
  · cases hi
  · exact .refl t
  · exact runJob_keepsLifecycleFrame hds (acceptedCommit_ne_motion (isMotion_of_isLifecycle hi) s)
  · exact (State.KeepsLifecycleFrame.refl s).respond st 0
  · exact (hu.keepsLifecycleFrame hi).respond .ok d

/-! ### A command that completes with an error (R134, R241) -/

/-- Where one response is added, the added response is that one. -/
theorem respond_added {s u : State} {st : Status} {d : Word32} {r : Response}
    (hu : u.responses = s.responses)
    (hr : (u.respond st d).responses = s.responses ++ [r]) : r = ⟨st, d⟩ := by
  rw [State.respond_responses, hu] at hr
  exact (List.singleton_inj.mp (List.append_cancel_left hr)).symm

/-- A command in execution that answers an error has committed nothing: only its writes and the edges
drawn meanwhile have had an effect. -/
theorem runJob_error {ds : List Draw} {job : Job} {s : State} {r : Response}
    (hr : (runJob ds job s).responses = s.responses ++ [r]) (hst : r.status ≠ .ok) :
    ∃ used rest sh trace, ds = used ++ rest ∧
      runJob ds job s = (s.meanwhile used rest sh trace).respond r.status r.data := by
  obtain ⟨used, rest, hsplit, sh, trace, ⟨job', _, ht⟩ | ⟨job', ht⟩ | ⟨_, ht⟩⟩ :=
    runJob_cases ds job s
  · refine ⟨used, rest, sh, trace, hsplit, ?_⟩
    rw [ht] at hr ⊢
    cases hf : job'.failed with
    | none =>
      rw [finish_of_no_failure hf] at hr
      exact absurd (congrArg Response.status (respond_added (commit_responses _ _) hr)) hst
    | some f =>
      rw [finish_of_failure hf] at hr ⊢
      rw [respond_added rfl hr]
  · simp [ht] at hr
  · simp [ht] at hr

/-- Any instruction that answers an error is a command that has committed nothing. -/
theorem exec_error {i : Instr} {s t : State} {r : Response} (hb : s.busy = false)
    (h : exec i s = .next t) (hr : t.responses = s.responses ++ [r]) (hst : r.status ≠ .ok) :
    ∃ used rest sh trace, s.draws = used ++ rest ∧
      t = (s.meanwhile used rest sh trace).respond r.status r.data := by
  rcases exec_cases h with ⟨p, _, rfl⟩ | ⟨_, hb', _⟩ | ⟨_, _, ⟨ws, _, rfl⟩ | ⟨_, st, _, _, rfl⟩ |
    ⟨_, u, d, hu, rfl⟩⟩
  · simp at hr
  · simp [hb] at hb'
  · exact runJob_error hr hst
  · obtain rfl := respond_added rfl hr
    exact ⟨[], s.draws, s.sh, s.trace, rfl, rfl⟩
  · exact absurd (congrArg Response.status (respond_added hu.responses_eq hr)) hst

/-- Settles O35: by `exec_error` only the writes and the edges meanwhile have had an effect. -/
theorem errorsCommitNothing : Obligations.ErrorsCommitNothing := by
  intro i s t r hb h hr hst
  obtain ⟨used, rest, sh, trace, hsplit, rfl⟩ := exec_error hb h hr hst
  exact ⟨rfl, rfl, rfl, rfl, rfl, rfl, rfl, used, hsplit, rfl⟩

/-! ### INITIALIZE, and the refusals (R131, R135) -/

/-- Settles O19: UNINIT is left for INIT, and in any other state the OK is all there is. -/
theorem initializeResult : Obligations.InitializeResult := by
  intro s hb
  have hidle : s.inFlight = none := busy_eq_false_iff.mp hb
  rw [exec, execInitialise, onCommandPort_idle hb]
  split
  · have hset : (s.setLstate .init).inFlight = none := hidle
    rw [respond_idle hset]
    rfl
  · rw [respond_idle hidle]

/-- A refusal at an idle port adds its response alone. -/
theorem onCommandPort_raise {s : State} {f : State → State} {st : Status} (hb : s.busy = false)
    (hf : f s = s.raise st) :
    onCommandPort s f = .next { s with responses := s.responses ++ [⟨st, 0⟩] } := by
  rw [onCommandPort_idle hb, hf, State.raise, respond_idle (busy_eq_false_iff.mp hb)]

/-- Settles O22: the state guards of ENABLE and DISABLE raise InvalidState. -/
theorem lifecycleStateGuard : Obligations.LifecycleStateGuard := by
  refine fun s hb => ⟨fun hl => ?_, fun hl => ?_⟩
  · have hguard : ¬(s.lstate = .init ∨ s.lstate = .disabled) := by
      rcases hl with hl | hl <;> simp [hl]
    rw [exec, execEnable]
    exact onCommandPort_raise hb (if_neg hguard)
  · rw [exec, execDisable]
    exact onCommandPort_raise hb (if_pos hl)

end Sys2Proof.Machine

/-! ## The motion commands (42_motion)

One equation for the four commands, and from it their results, refusals and frame, and the speed a
query reads back. -/

namespace Sys2Proof.Machine

open Sys2Proof

/-! ### The four commands in one equation (R150 to R154) -/

/-- The operation of the mux a motion command executes (R151 to R154). `exec_motion` speaks of motion
commands only, so the last arm is STOP's. -/
def motionOp (i : Instr) (s : State) : MuxOp :=
  match i with
  | .setSpeed v => .apply (clamp s.params.maxDuty v)
  | .setDirection fwd => .apply (signedSpeed s.lastSpeed fwd)
  | .brake => .brake
  | _ => .coast

/-- A motion command is guarded by ENABLED and actuates its operation. -/
theorem exec_motion {i : Instr} (hi : isMotion i = true) (s : State) :
    exec i s = onCommandPort s fun s =>
      s.whenEnabled fun s => s.actuate (motionOp i s) (acceptedCommit i s) := by
  cases i with
  | setSpeed v => rfl
  | setDirection fwd => rfl
  | stop => rfl
  | brake => rfl
  | _ => cases hi

/-- Settles O28: the guard of `exec_motion` raises InvalidState. -/
theorem motionStateGuard : Obligations.MotionStateGuard := by
  intro i s hi hb hl
  rw [exec_motion hi]
  exact onCommandPort_raise hb (if_neg hl)

theorem clamp_zero (m : Nat) : clamp m 0 = 0 :=
  clamp_of_mem (by omega) (by omega)

/-- Settles O29: speed 0 is in the range of every clamp, its plan is the coast plan (R112), and it
commits what STOP commits. -/
theorem stopIsSetSpeedZero : Obligations.StopIsSetSpeedZero := by
  intro s
  have hop (u : State) : motionOp (.setSpeed 0) u = .apply 0 := by simp [motionOp, clamp_zero]
  have hcommit (u : State) : acceptedCommit (.setSpeed 0) u = .motion 0 true := by
    simp [acceptedCommit, clamp_zero, speedReg, dir]
  rw [exec_motion rfl, exec_motion rfl]
  simp only [hop, hcommit]
  rfl

/-! ### Every write answered Ok (R151 to R154, R116) -/

@[simp] theorem commit_inFlight (s : State) (k : Commit) : (s.commit k).inFlight = s.inFlight := by
  cases k <;> rfl

/-- An accepted command whose whole plan is answered Ok, as an update of the state it began in: its
writes, its commit and its response. -/
theorem exec_answeredOk_eq {i : Instr} {s : State} {ws : List Write} {rest : List Draw}
    (hb : s.busy = false) (hp : acceptedPlan i s = some ws)
    (hds : s.draws = answersOk (planLength s.params.mode) ++ rest) (hq : Quiet rest = true) :
    exec i s = .next { ((s.recordAll (okTrace ws)).setDraws rest).commit (acceptedCommit i s) with
      responses := s.responses ++ [⟨.ok, 0⟩] } := by
  have hidle : (((s.recordAll (okTrace ws)).setDraws rest).commit (acceptedCommit i s)).inFlight =
      none := (commit_inFlight _ _).trans (busy_eq_false_iff.mp hb)
  rw [exec_answeredOk hb hp hds hq, respond_idle hidle, commit_responses]
  rfl

theorem Shadows.recordAll_drivePlan (m : Mode) {c : Int} (h0 : c ≠ 0) (sh : Shadows) :
    sh.recordAll (okTrace (drivePlan m c)) = applyShadows m c sh := by
  unfold applyShadows
  rw [if_neg h0]
  cases m with
  | singlePwm => rfl
  | dualPwm =>
    by_cases hpos : 0 < c
    · rw [drivePlan, if_pos hpos, if_pos hpos]; rfl
    · rw [drivePlan, if_neg hpos, if_neg hpos]; rfl

/-- The shadows after the plan of `Apply(c)` answered Ok (R112, R116). -/
theorem Shadows.recordAll_apply {p : Params} {c : Int} {ws : List Write}
    (h : plan p (.apply c) = some ws) (sh : Shadows) :
    sh.recordAll (okTrace ws) = applyShadows p.mode c sh := by
  by_cases h0 : c = 0
  · subst h0
    obtain rfl := Option.some.inj ((plan_apply_zero p).symm.trans h)
    exact Shadows.recordAll_coastPlan p.mode sh
  · obtain rfl := Option.some.inj ((plan_apply_ne_zero p h0).symm.trans h)
    exact Shadows.recordAll_drivePlan p.mode h0 sh

/-- Settles O24: in ENABLED the plan of the clamped speed is accepted, and its commit is that
speed. -/
theorem setSpeedSucceeds : Obligations.SetSpeedSucceeds := by
  intro s v rest hb hl hds hq
  refine ⟨_, rfl, ?_⟩
  have hp : acceptedPlan (.setSpeed v) s = plan s.params (.apply (clamp s.params.maxDuty v)) :=
    if_pos hl
  rw [exec_answeredOk_eq hb hp hds hq, ← Shadows.recordAll_apply rfl]
  rfl

theorem signedSpeed_eq_abs (lastSpeed : Word16) (fwd : Bool) :
    signedSpeed lastSpeed fwd = if fwd then |lastSpeed.toInt| else -|lastSpeed.toInt| := by
  rw [signedSpeed, Int.abs_eq_natAbs]

/-- Settles O25: in ENABLED the plan of the last magnitude with the operand's sign is accepted, and
its commit is that speed and the operand. -/
theorem setDirectionSucceeds : Obligations.SetDirectionSucceeds := by
  intro s fwd rest hb hl hds hq
  refine ⟨signedSpeed s.lastSpeed fwd, _, signedSpeed_eq_abs s.lastSpeed fwd, rfl, ?_⟩
  have hp : acceptedPlan (.setDirection fwd) s =
      plan s.params (.apply (signedSpeed s.lastSpeed fwd)) := if_pos hl
  rw [exec_answeredOk_eq hb hp hds hq, ← Shadows.recordAll_apply rfl]
  rfl

/-- Settles O26: in ENABLED the coast plan is accepted, and its commit is speed 0, forward. -/
theorem stopSucceeds : Obligations.StopSucceeds := by
  intro s rest hb hl hds hq
  have hp : acceptedPlan .stop s = some (coastPlan s.params.mode) := if_pos hl
  rw [exec_answeredOk_eq hb hp hds hq, ← Shadows.recordAll_coastPlan]
  rfl

/-- Settles O27: DUAL_PWM has a brake plan, whose four writes leave every shadow known, and
SINGLE_PWM has none. -/
theorem brakeResult : Obligations.BrakeResult := by
  intro s hb hl
  refine ⟨fun hm rest hds hq => ?_, fun hm => ?_⟩
  · have hp : acceptedPlan .brake s = some [.duty .pwm0 (BitVec.ofNat 16 s.params.maxDuty),
        .duty .pwm1 (BitVec.ofNat 16 s.params.maxDuty), .level .en0 true, .level .en1 true] := by
      simp [acceptedPlan, hl, plan, brakePlan, hm]
    have hds' : s.draws = answersOk (planLength s.params.mode) ++ rest := by rw [hm]; exact hds
    rw [exec_answeredOk_eq hb hp hds' hq]
    rfl
  · have hp : plan s.params .brake = none := by simp [plan, brakePlan, hm]
    rw [exec_motion rfl]
    refine onCommandPort_raise hb ?_
    simp [State.whenEnabled, hl, motionOp, State.actuate, hp]

/-! ### The frame of the motion commands (R156) -/

/-- A command in execution that no reset abandons keeps the frame of R136, apart from the motion it
commits. -/
theorem runJob_keepsFrame_or_motion {s : State} (hds : .reset ∉ s.draws) (job : Job) :
    s.KeepsLifecycleFrame (runJob s.draws job s) ∨
    ∃ v d, job.commit = .motion v d ∧
      (s.setMotion v d).KeepsLifecycleFrame (runJob s.draws job s) := by
  by_cases hk : ∃ v d, job.commit = .motion v d
  · obtain ⟨v, d, hk⟩ := hk
    obtain ⟨used, rest, hsplit, sh, trace, ⟨job', hc, ht⟩ | ⟨job', ht⟩ | ⟨hreset, _⟩⟩ :=
      runJob_cases s.draws job s
    · rw [ht]
      cases hf : job'.failed with
      | none =>
        rw [finish_of_no_failure hf, hc, hk]
        have hmotion := State.KeepsLifecycleFrame.meanwhile (s := s.setMotion v d) hsplit sh trace
        exact .inr ⟨v, d, rfl, hmotion.respond .ok 0⟩
      | some f =>
        rw [finish_of_failure hf]
        exact .inl ((State.KeepsLifecycleFrame.meanwhile hsplit sh trace).respond _ _)
    · exact .inl (ht ▸ (State.KeepsLifecycleFrame.meanwhile hsplit sh trace).setJob job')
    · exact absurd (hsplit ▸ List.mem_append_left rest hreset) hds
  · exact .inl (runJob_keepsLifecycleFrame hds fun v d h => hk ⟨v, d, h⟩)

/-- A motion command has no update without a plan. -/
theorem QuickUpdate.eq_of_isMotion {i : Instr} {s u : State} (h : QuickUpdate i s u)
    (hi : isMotion i = true) : u = s := by
  cases h with
  | same => rfl
  | init h | ppr p h | target v h | clear h => subst h; cases hi

theorem exec_keepsFrame_or_motion {i : Instr} {s t : State} (hi : isMotion i = true)
    (hds : .reset ∉ s.draws) (h : exec i s = .next t) :
    s.KeepsLifecycleFrame t ∨
    ∃ v d, acceptedCommit i s = .motion v d ∧ (s.setMotion v d).KeepsLifecycleFrame t := by
  have hrefl := State.KeepsLifecycleFrame.refl s
  rcases exec_cases h with ⟨p, rfl, _⟩ | ⟨_, _, rfl⟩ | ⟨_, _, ⟨ws, _, rfl⟩ | ⟨_, st, _, _, rfl⟩ |
    ⟨_, u, d, hu, rfl⟩⟩
  · cases hi
  · exact .inl hrefl
  · exact runJob_keepsFrame_or_motion hds _
  · exact .inl (hrefl.respond st 0)
  · exact .inl (hu.eq_of_isMotion hi ▸ hrefl.respond .ok d)

theorem isLifecycle_of_isMotion {i : Instr} (hi : isMotion i = true) : isLifecycle i = false := by
  cases hl : isLifecycle i with
  | false => rfl
  | true => rw [isMotion_of_isLifecycle hl] at hi; cases hi

/-- Settles O32: only lifecycle commands change LSTATE, the rest is the frame of R136 but for the
committed motion, and BRAKE commits none. -/
theorem motionFrame : Obligations.MotionFrame := by
  intro i s t hi hds h
  have hl := onlyLifecycleCommandsChangeLstate i s t (isLifecycle_of_isMotion hi) hds h
  rcases exec_keepsFrame_or_motion hi hds h with
    ⟨hp, hv, hd, hf, hppr, htv, htgt, hin, hcount⟩ |
    ⟨v, d, hk, hp, _, _, hf, hppr, htv, htgt, hin, hcount⟩
  · exact ⟨hp, hl, hf, hppr, htv, htgt, hin, fun _ => ⟨hv, hd⟩, hcount⟩
  · refine ⟨hp, hl, hf, hppr, htv, htgt, hin, ?_, hcount⟩
    rintro rfl
    cases hk

/-! ### The speed a query reads back (R151, R181, R182) -/

/-- A command in execution that answers OK has committed: its writes, the edges drawn meanwhile and
its commit are all that has had an effect. -/
theorem runJob_ok {ds : List Draw} {job : Job} {s : State} {d : Word32}
    (hr : (runJob ds job s).responses = s.responses ++ [⟨.ok, d⟩]) :
    ∃ used rest sh trace, ds = used ++ rest ∧
      runJob ds job s = ((s.meanwhile used rest sh trace).commit job.commit).respond .ok 0 := by
  obtain ⟨used, rest, hsplit, sh, trace, ⟨job', hc, ht⟩ | ⟨job', ht⟩ | ⟨_, ht⟩⟩ :=
    runJob_cases ds job s
  · refine ⟨used, rest, sh, trace, hsplit, ?_⟩
    rw [ht] at hr ⊢
    cases hf : job'.failed with
    | none => rw [finish_of_no_failure hf, hc]
    | some f =>
      rw [finish_of_failure hf] at hr
      cases respond_added rfl hr
  · simp [ht] at hr
  · simp [ht] at hr

/-- A SET_SPEED that answers OK leaves the clamped speed and its sign in the registers, and the port
idle. -/
theorem exec_setSpeed_ok {s t : State} {v : Int} {d : Word32} (hb : s.busy = false)
    (hl : s.lstate = .enabled) (h : exec (.setSpeed v) s = .next t)
    (hr : t.responses = s.responses ++ [⟨.ok, d⟩]) :
    t.busy = false ∧ t.lastSpeed = speedReg (clamp s.params.maxDuty v) ∧
      t.lastDir = dir (clamp s.params.maxDuty v) := by
  have hp : acceptedPlan (.setSpeed v) s = plan s.params (.apply (clamp s.params.maxDuty v)) :=
    if_pos hl
  rw [exec_of_plan hb hp] at h
  cases h
  obtain ⟨used, rest, sh, trace, _, ht⟩ := runJob_ok hr
  rw [ht]
  exact ⟨rfl, rfl, rfl⟩

/-- A command that answers at once at an idle port adds its response alone. -/
theorem onCommandPort_respond {s : State} {f : State → State} {st : Status} {d : Word32}
    (hb : s.busy = false) (hf : f s = s.respond st d) :
    onCommandPort s f = .next { s with responses := s.responses ++ [⟨st, d⟩] } := by
  rw [onCommandPort_idle hb, hf, respond_idle (busy_eq_false_iff.mp hb)]

/-- The sign extension of a speed register is the speed itself, in 32 bits (R181). -/
theorem signExtend_speedReg {p : Params} {c : Int} (hc : c.natAbs ≤ p.maxDuty) :
    (speedReg c).signExtend 32 = BitVec.ofInt 32 c := by
  have hle := p.maxDuty_le
  refine BitVec.eq_of_toInt_eq ?_
  rw [BitVec.toInt_signExtend_of_le (by decide), speedReg_toInt hc, BitVec.toInt_ofInt,
    Int.bmod_eq_of_le] <;> omega

/-- Settles O43: within the range the clamp changes nothing, so the registers hold the operand and
its sign. -/
theorem getSpeedReadsTheSpeedBack : Obligations.GetSpeedReadsTheSpeedBack := by
  intro s t v hb hl hlo hhi h hr
  obtain ⟨hidle, hspeed, hdir⟩ := exec_setSpeed_ok hb hl h hr
  rw [clamp_of_mem hlo hhi] at hspeed hdir
  constructor
  · rw [exec, execGetSpeed]
    refine onCommandPort_respond hidle ?_
    rw [hspeed, signExtend_speedReg (p := s.params) (by omega)]
  · rw [exec, execGetDirection]
    refine onCommandPort_respond hidle ?_
    simp [hdir, boolData, dir]

end Sys2Proof.Machine

/-! ## The query commands (43_queries)

One equation for the six queries, and from it their results; what the commands without a write plan,
queries and encoder commands, leave unchanged. -/

namespace Sys2Proof.Machine

open Sys2Proof

/-! ### The six queries in one equation (R181 to R186) -/

/-- The DATA a query answers (R181 to R186). `exec_query` speaks of queries only, so the last arm is
that of GET_CURRENT, GET_VOLTAGE and GET_TEMPERATURE. -/
def queryData (i : Instr) (s : State) : Word32 :=
  match i with
  | .getSpeed => s.lastSpeed.signExtend 32
  | .getDirection => boolData s.lastDir
  | .getFaultStatus => s.readFaultStatus.zeroExtend 32
  | _ => floatZero

/-- A query has no guard: it answers OK with its data in every lifecycle state. -/
theorem exec_query {i : Instr} (hi : isQuery i = true) (s : State) :
    exec i s = onCommandPort s fun s => s.respond .ok (queryData i s) := by
  cases i with
  | getSpeed => rfl
  | getDirection => rfl
  | getCurrent => rfl
  | getVoltage => rfl
  | getTemperature => rfl
  | getFaultStatus => rfl
  | _ => cases hi

theorem exec_query_idle {i : Instr} {s : State} (hi : isQuery i = true) (hb : s.busy = false) :
    exec i s = .next { s with responses := s.responses ++ [⟨.ok, queryData i s⟩] } := by
  rw [exec_query hi]
  exact onCommandPort_respond hb rfl

/-- Settles O40: the data of GET_SPEED is the sign-extended LAST_SPEED. -/
theorem getSpeedResult : Obligations.GetSpeedResult :=
  fun _ hb => exec_query_idle rfl hb

/-- Settles O41: the data of GET_DIRECTION is LAST_DIR as a number. -/
theorem getDirectionResult : Obligations.GetDirectionResult :=
  fun _ hb => exec_query_idle rfl hb

/-- FAULT_STATUS can hold nothing but 0 (R26). -/
theorem readFaultStatus_eq_zero (s : State) : s.readFaultStatus = 0 := by
  unfold State.readFaultStatus
  cases s.faultStatus
  rfl

theorem queryData_getFaultStatus (s : State) : queryData .getFaultStatus s = 0 := by
  rw [queryData, readFaultStatus_eq_zero]
  rfl

/-- Settles O42: three queries answer the constant +0.0, and FAULT_STATUS reads 0 in every state. -/
theorem sensorQueriesAnswerZero : Obligations.SensorQueriesAnswerZero := by
  intro i s hi hb
  simp only [List.mem_cons, List.not_mem_nil, or_false] at hi
  rcases hi with rfl | rfl | rfl | rfl
  · exact exec_query_idle rfl hb
  · exact exec_query_idle rfl hb
  · exact exec_query_idle rfl hb
  · rw [exec_query_idle rfl hb, queryData_getFaultStatus]

/-! ### The frame of queries and encoder commands (R34, R180) -/

section NoWrite

variable {i : Instr} {s t u : State}

theorem ne_initialise_of_query_or_encoder (hi : isQuery i = true ∨ isEncoderCommand i = true) :
    i ≠ .initialise := by
  rintro rfl
  simp [isQuery, isEncoderCommand] at hi

theorem acceptedPlan_eq_none_of_query_or_encoder
    (hi : isQuery i = true ∨ isEncoderCommand i = true) (s : State) : acceptedPlan i s = none := by
  cases i with
  | setPpr | checkPpr | getPulseCount | setTarget | clearTarget | checkTarget => rfl
  | getSpeed | getDirection | getCurrent | getVoltage | getTemperature | getFaultStatus => rfl
  | _ => simp [isQuery, isEncoderCommand] at hi

theorem QuickUpdate.inFlight_eq (h : QuickUpdate i s u) : u.inFlight = s.inFlight := by
  cases h <;> rfl

theorem QuickUpdate.eq_of_isQuery (h : QuickUpdate i s u) (hi : isQuery i = true) : u = s := by
  cases h with
  | same => rfl
  | init h | ppr p h | target v h | clear h => subst h; cases hi

/-- Apart from INITIALIZE, a command without a plan sets no register but PPR and the target. -/
theorem QuickUpdate.eq_of_ne_initialise (h : QuickUpdate i s u) (hi : i ≠ .initialise) :
    u = { s with ppr := u.ppr, tgtValid := u.tgtValid, target := u.target } := by
  cases h with
  | init h => exact absurd h hi
  | same | ppr | target | clear => rfl

/-- A query or an encoder command does its quick update and gives responses, and nothing else. -/
theorem exec_query_or_encoder (hi : isQuery i = true ∨ isEncoderCommand i = true)
    (h : exec i s = .next t) :
    ∃ u rs, QuickUpdate i s u ∧ t = { u with responses := rs } := by
  have hsame : QuickUpdate i s s := .same (.inl (ne_initialise_of_query_or_encoder hi))
  rcases exec_cases h with ⟨p, rfl, _⟩ | ⟨_, _, rfl⟩ | ⟨_, hb, ⟨ws, hp, _⟩ | ⟨_, st, _, _, rfl⟩ |
    ⟨_, u, d, hu, rfl⟩⟩
  · simp [isQuery, isEncoderCommand] at hi
  · exact ⟨t, t.responses, hsame, rfl⟩
  · simp [acceptedPlan_eq_none_of_query_or_encoder hi] at hp
  · exact ⟨s, _, hsame, respond_idle (busy_eq_false_iff.mp hb) st 0⟩
  · exact ⟨u, _, hu, respond_idle (hu.inFlight_eq.trans (busy_eq_false_iff.mp hb)) .ok d⟩

end NoWrite

/-- Settles O38: the quick update of such a command sets PPR and the target at most, and that of a
query nothing. -/
theorem queriesAndEncoderCommandsWriteNothing :
    Obligations.QueriesAndEncoderCommandsWriteNothing := by
  intro i s t hi h
  obtain ⟨u, rs, hu, rfl⟩ := exec_query_or_encoder hi h
  have hframe := hu.eq_of_ne_initialise (ne_initialise_of_query_or_encoder hi)
  refine ⟨?_, ?_, ?_, ?_, ?_, ?_, ?_, ?_, ?_, ?_, ?_, fun hq => ?query⟩
  case query =>
    rw [hu.eq_of_isQuery hq]
    exact ⟨rfl, rfl, rfl⟩
  all_goals rw [hframe]

end Sys2Proof.Machine

/-! ## The encoder (44_encoder)

The answer of an encoder command behind its presence gate, the counter after an edge, and the
registers the encoder rules do not read. -/

namespace Sys2Proof.Machine

open Sys2Proof

/-! ### The presence gate and the results of the encoder commands (R200 to R207) -/

/-- Every encoder command has its effect `f` behind the command port and the presence gate. -/
theorem exec_encoderCommand {i : Instr} (hi : isEncoderCommand i = true) :
    ∃ f, ∀ s, exec i s = onCommandPort s fun s => s.withEncoder f := by
  cases i with
  | setPpr | checkPpr | getPulseCount | setTarget | clearTarget | checkTarget =>
    exact ⟨_, fun _ => rfl⟩
  | _ => cases hi

/-- Settles O44: behind the port stands the presence gate, before anything of the command itself. -/
theorem noEncoderGate : Obligations.NoEncoderGate := by
  intro i s habsent
  have hgate : ¬s.params.encoderPresent = true := by simp [habsent]
  constructor
  · intro hi hb
    obtain ⟨f, hf⟩ := exec_encoderCommand hi
    rw [hf]
    exact onCommandPort_raise hb (if_neg hgate)
  · rintro p rfl
    exact congrArg _ (if_neg hgate)

/-- With an encoder, a command at an idle port sets registers (`u`) and adds its response. -/
theorem encoderCommand_respond {s u : State} {f : State → State} {st : Status} {d : Word32}
    (hb : s.busy = false) (he : s.params.encoderPresent = true) (hu : u.inFlight = s.inFlight)
    (hf : f s = u.respond st d) :
    onCommandPort s (fun s => s.withEncoder f) =
      .next { u with responses := u.responses ++ [⟨st, d⟩] } := by
  have hidle : u.inFlight = none := hu.trans (busy_eq_false_iff.mp hb)
  rw [onCommandPort_idle hb, State.withEncoder, if_pos he, hf, respond_idle hidle]

theorem boolData_decide (c : Prop) [Decidable c] : boolData (decide c) = if c then 1 else 0 := by
  simp [boolData]

/-- Settles O45: the operand is an i16, so PPR holds it unchanged. -/
theorem setPprResult : Obligations.SetPprResult := by
  intro s p hb he hlo hhi
  rw [exec, execSetPpr]
  refine ⟨fun hp => encoderCommand_respond hb he rfl (if_pos hp), fun hp => ?_⟩
  refine ⟨BitVec.ofInt 16 p, by rw [BitVec.toInt_ofInt_eq_self] <;> omega, ?_⟩
  have hdata : boolData (decide (p ≠ s.ppr.toInt)) = if p = s.ppr.toInt then 0 else 1 := by
    rw [boolData_decide, ite_not]
  rw [← hdata]
  exact encoderCommand_respond (u := s.setPpr (BitVec.ofInt 16 p)) hb he rfl
    (if_neg (not_le.mpr hp))

/-- Settles O46, by the sign of PPR. -/
theorem checkPprResult : Obligations.CheckPprResult := by
  intro s hb he
  rw [exec, execCheckPpr]
  by_cases hp : s.ppr.toInt ≤ 0
  · rw [if_pos hp]
    exact encoderCommand_respond hb he rfl (if_pos hp)
  · rw [if_neg hp]
    exact encoderCommand_respond hb he rfl (if_neg hp)

/-- Settles O47: the data is the counter. -/
theorem getPulseCountResult : Obligations.GetPulseCountResult :=
  fun _ hb he => encoderCommand_respond hb he rfl rfl

/-- Settles O48: the operand is an i32, so TARGET holds it unchanged. -/
theorem targetCommandsResult : Obligations.TargetCommandsResult := by
  intro s v hb he hlo hhi
  refine ⟨⟨BitVec.ofInt 32 v, by rw [BitVec.toInt_ofInt_eq_self] <;> omega, ?_⟩, ?_⟩
  · exact encoderCommand_respond (u := s.setTarget true _) hb he rfl rfl
  · exact encoderCommand_respond (u := s.setTarget false 0) hb he rfl rfl

/-- Settles O49: the data is the comparison as a number. -/
theorem checkTargetResult : Obligations.CheckTargetResult := by
  intro s hb he
  rw [← boolData_decide, Bool.decide_and, Bool.decide_eq_true]
  exact encoderCommand_respond hb he rfl rfl

/-! ### The counter (R203, R209) -/

/-- The saturated count fits its register, so nothing is lost when it is stored. -/
theorem countAfter_toInt (count : Word32) (p : Bool) :
    (countAfter count p).toInt = sat32 (count.toInt + (if p then 1 else -1)) := by
  generalize hx : count.toInt + (if p then 1 else -1) = x
  have hbounds : -2147483648 ≤ sat32 x ∧ sat32 x ≤ 2147483647 := by
    unfold sat32
    omega
  rw [countAfter, hx, BitVec.toInt_ofInt_eq_self] <;> omega

/-- Settles O50: an edge stores the saturated count, and reads neither LSTATE nor BUSY. -/
theorem edgeCountsSaturating : Obligations.EdgeCountsSaturating := fun s p he =>
  ⟨countAfter s.pulseCount p, congrArg _ (if_pos he), countAfter_toInt s.pulseCount p⟩

/-! ### The registers the encoder rules do not read (R208, R210) -/

/-- An update of registers that neither the command port nor the presence gate reads, and that a
response neither reads nor sets. -/
structure Unread (g : State → State) : Prop where
  inFlight : ∀ s, (g s).inFlight = s.inFlight
  params : ∀ s, (g s).params = s.params
  respond : ∀ s st d, (g s).respond st d = g (s.respond st d)

theorem unread_setLstate (l : LState) : Unread fun s => s.setLstate l :=
  ⟨fun _ => rfl, fun _ => rfl, fun _ _ _ => rfl⟩

theorem unread_setPpr (q : Word16) : Unread fun s => s.setPpr q :=
  ⟨fun _ => rfl, fun _ => rfl, fun _ _ _ => rfl⟩

/-- An update that both branches of a condition carry along, the condition carries along. -/
theorem ite_eq_map {g : State → State} {c : Prop} [Decidable c] {s₁ s₂ t₁ t₂ : State}
    (h₁ : t₁ = g s₁) (h₂ : t₂ = g s₂) :
    (if c then t₁ else t₂) = g (if c then s₁ else s₂) := by
  rw [h₁, h₂, apply_ite g]

/-- An encoder command carries an unread update along where its own effect `f` does. -/
theorem encoderCommand_unread {g f : State → State} {s t : State} (hg : Unread g)
    (hf : f (g s) = g (f s)) (h : onCommandPort s (fun s => s.withEncoder f) = .next t) :
    onCommandPort (g s) (fun s => s.withEncoder f) = .next (g t) := by
  have hbusy : (g s).busy = s.busy := congrArg Option.isSome (hg.inFlight s)
  rcases onCommandPort_next h with ⟨hb, rfl⟩ | ⟨hb, rfl⟩
  · exact onCommandPort_busy (hbusy.trans hb) _
  · rw [onCommandPort_idle (hbusy.trans hb), State.withEncoder, hg.params]
    exact congrArg _ (ite_eq_map hf (hg.respond s .unsupportedOperation 0))

theorem countEdge_setLstate (s : State) (l : LState) (p : Bool) :
    (s.setLstate l).countEdge p = (s.countEdge p).setLstate l := by
  simp only [countEdge_eq]
  rfl

theorem countEdge_setPpr (s : State) (q : Word16) (p : Bool) :
    (s.setPpr q).countEdge p = (s.countEdge p).setPpr q := by
  simp only [countEdge_eq]
  rfl

/-- Settles O51: the port, the gate and the effect of each command read no LSTATE, and an edge none
either. -/
theorem encoderIgnoresLifecycle : Obligations.EncoderIgnoresLifecycle := by
  intro i s t l hi h
  cases i with
  | edge p =>
    cases h
    exact congrArg _ (countEdge_setLstate s l p)
  | setPpr | checkPpr =>
    exact encoderCommand_unread (unread_setLstate l) (ite_eq_map (g := (·.setLstate l)) rfl rfl) h
  | getPulseCount | setTarget | clearTarget | checkTarget =>
    exact encoderCommand_unread (unread_setLstate l) rfl h
  | _ => simp [isEncoderCommand, isCommand] at hi

/-- Settles O52: the port, the gate and the effect of each command named read no PPR, and an edge
none either. -/
theorem countAndTargetIgnorePpr : Obligations.CountAndTargetIgnorePpr := by
  intro i s t q hi h
  cases i with
  | edge p =>
    cases h
    exact congrArg _ (countEdge_setPpr s q p)
  | getPulseCount | setTarget | clearTarget | checkTarget =>
    exact encoderCommand_unread (unread_setPpr q) rfl h
  | _ => simp at hi

end Sys2Proof.Machine

/-! ## Refusals (60_exceptions)

A command in execution answers OK or HardwareError, so every other status is a refusal, given before
any write. -/

namespace Sys2Proof.Machine

open Sys2Proof

/-- The response of a command with a plan is OK or HardwareError (R113, R243). -/
theorem runJob_status {ds : List Draw} {job : Job} {s : State} {r : Response}
    (hr : (runJob ds job s).responses = s.responses ++ [r]) :
    r.status = .ok ∨ r.status = .hardwareError := by
  obtain ⟨_, _, _, sh, trace, ⟨job', _, ht⟩ | ⟨job', ht⟩ | ⟨_, ht⟩⟩ := runJob_cases ds job s
  · rw [ht] at hr
    cases hf : job'.failed with
    | none =>
      rw [finish_of_no_failure hf] at hr
      exact .inl (congrArg Response.status (respond_added (commit_responses _ _) hr))
    | some f =>
      rw [finish_of_failure hf] at hr
      exact .inr (congrArg Response.status (respond_added rfl hr))
  · simp [ht] at hr
  · simp [ht] at hr

/-- Settles O36: a command with a plan or with an update of its own answers OK or HardwareError, so
what is left is a refusal, and at an idle port its response is all it adds. -/
theorem refusalsComeBeforeAnyWrite : Obligations.RefusalsComeBeforeAnyWrite := by
  intro i s t r hb h hr hok hhw
  rcases exec_cases h with ⟨p, _, rfl⟩ | ⟨_, hb', _⟩ | ⟨_, _, ⟨ws, _, rfl⟩ | ⟨_, st, _, _, rfl⟩ |
    ⟨_, u, d, hu, rfl⟩⟩
  · simp at hr
  · simp [hb] at hb'
  · exact absurd (runJob_status hr) (not_or.mpr ⟨hok, hhw⟩)
  · obtain rfl := respond_added rfl hr
    exact ⟨rfl, respond_idle (busy_eq_false_iff.mp hb) st 0⟩
  · exact absurd (congrArg Response.status (respond_added hu.responses_eq hr)) hok

end Sys2Proof.Machine

/-! ## Reset, and what an output does not show (70_reset)

The reset state and the three places a reset can fall, the next step after a placed word, and that in
SINGLE_PWM the sign of a speed reaches no output. -/

namespace Sys2Proof.Machine

open Sys2Proof

/-! ### Reset (R270 to R272) -/

/-- A reset after the Ok answers to the writes `pre` leaves the reset registers, and those writes in
the trace, whatever was left to do (R272; log entry 4). -/
theorem runJob_reset_after_answersOk (pre todo : List Write) (rest : List Draw) (k : Commit)
    (f : Option Failure) (s : State) :
    runJob (answersOk pre.length ++ .reset :: rest) ⟨k, pre ++ todo, f⟩ s =
      afterReset s (s.trace ++ okTrace pre) rest := by
  rw [runJob_answersOk]
  rfl

/-- Settles O14: the plan is its first `k` writes, answered before the reset, and the writes the
reset leaves undone. -/
theorem resetAbandonsTheCommand : Obligations.ResetAbandonsTheCommand := by
  intro i s ws k rest hb hp hk hds
  have hrun := runJob_reset_after_answersOk (ws.take k) (ws.drop k) rest (acceptedCommit i s) none s
  rw [List.length_take_of_le hk, List.take_append_drop] at hrun
  rw [exec_of_plan hb hp, hds, hrun]

theorem takeInput_of_reset {s : State} {rest : List Input}
    (hi : s.inbox = .reset :: rest ∨ ∃ w, s.inbox = .abandoned w :: rest) :
    takeInput s = .settled (.next (s.setInbox rest).resetEvent) := by
  rcases hi with hi | ⟨w, hi⟩ <;> simp [takeInput, hi]

/-- Settles O13: no command can go on, so the step takes the reset. -/
theorem resetStepWritesNothing : Obligations.ResetStepWritesNothing := by
  intro s rest hwait hi
  rw [step, turn_waiting hwait, takeInput_of_reset hi]
  rfl

/-- PPR_INIT fits its register (R10, R30). -/
theorem resetOf_ppr_toInt {p : Params} (he : p.encoderPresent = true) :
    (State.resetOf p).ppr.toInt = p.pprInit := by
  have hle := p.pprInit_le
  have hppr : (State.resetOf p).ppr = BitVec.ofNat 16 p.pprInit := if_pos he
  rw [hppr, BitVec.toInt_ofNat', Int.bmod_eq_of_le] <;> omega

/-- Settles O12: every register but PPR holds a constant after reset. -/
theorem resetState : Obligations.ResetState := by
  intro p
  have hline (e : EnLine) : (State.resetOf p).sh.line e = .unknown := by cases e <;> rfl
  have hchannel (c : Channel) : (State.resetOf p).sh.channel c = .unknown := by cases c <;> rfl
  exact ⟨rfl, rfl, rfl, rfl, hline, hchannel, resetOf_ppr_toInt, rfl, rfl, rfl, rfl, rfl, rfl⟩

/-! ### A placed word is run next (R283; log entry 10) -/

theorem portOfTableWord_cmd (w : CmdWord) : portOfTableWord 64 w.toNat = some (.cmd w) := by
  simp [portOfTableWord]

theorem portOfTableWord_edge (p : BitVec 1) : portOfTableWord 8 p.toNat = some (.edge p) := by
  have hlt : p.toNat < 2 := p.isLt
  simp [portOfTableWord, hlt]

/-- At an idle block the transaction of a table word is the input of the next step, which leaves the
inputs that stood behind it. -/
theorem step_withFetchWord {s : State} {nbits n : Nat} {x : PortWord} {i : Instr}
    (hb : s.busy = false) (hx : portOfTableWord nbits n = some x) (hd : decodePort x = .ok i) :
    step (s.withFetchWord nbits n) = exec i s := by
  have hplaced : s.withFetchWord nbits n = s.setInbox (.port x :: s.inbox) := by
    simp [State.withFetchWord, State.placeTableWord, hx]
  have hidle : (s.setInbox (.port x :: s.inbox)).busy = false := hb
  rw [hplaced, step, turn_idle hidle, takeInput_of_decodes rfl hd]
  rfl

/-- Settles O6: both rows of the table are placed as the transaction they stand for. -/
theorem placedWordIsRunNext : Obligations.PlacedWordIsRunNext := by
  intro s i hb
  constructor
  · intro w hd
    exact step_withFetchWord hb (portOfTableWord_cmd w) hd
  · intro p hd
    exact step_withFetchWord hb (portOfTableWord_edge p) (congrArg Except.ok hd)

/-! ### The outputs of a speed and of its negative (R278) -/

/-- Two states that an observer of the outputs cannot tell apart: the same trace and shadows. -/
def State.SameOutputs (s t : State) : Prop := s.trace = t.trace ∧ s.sh = t.sh

theorem State.SameOutputs.refl (s : State) : s.SameOutputs s := ⟨rfl, rfl⟩

@[simp] theorem commit_sh (s : State) (k : Commit) : (s.commit k).sh = s.sh := by
  cases k <;> rfl

@[simp] theorem finish_sh (s : State) (job : Job) : (s.finish job).sh = s.sh := by
  unfold State.finish; split <;> simp

theorem finish_sameOutputs (s : State) (job job' : Job) :
    (s.finish job).SameOutputs (s.finish job') := by
  simp [State.SameOutputs]

/-- What a command commits has no part in how an answer changes its writes. -/
theorem Job.answered_withCommit (job : Job) (k : Commit) (m : Mode) (w : Write) (rest : List Write)
    (r : CapResponse) :
    { job with commit := k }.answered m w rest r = { job.answered m w rest r with commit := k } := by
  obtain ⟨_, _, _ | f⟩ := job <;> cases r <;> rfl

/-- Whatever a command is to commit, its writes leave the same outputs. -/
theorem runJob_sameOutputs (ds : List Draw) (job : Job) (k : Commit) (s : State) :
    (runJob ds { job with commit := k } s).SameOutputs (runJob ds job s) := by
  induction ds generalizing job s with
  | nil =>
    simp only [runJob]
    split
    · exact finish_sameOutputs _ _ _
    · exact .refl _
  | cons d ds ih =>
    cases d with
    | edge p => exact ih job _
    | reset => exact .refl _
    | answer r =>
      simp only [runJob, Job.answered_withCommit]
      split
      · exact finish_sameOutputs _ _ _
      · exact ih _ _

/-- Operations with the same plan leave the same outputs. -/
theorem actuate_sameOutputs {s : State} {op op' : MuxOp} (h : plan s.params op = plan s.params op')
    (k k' : Commit) : (s.actuate op k).SameOutputs (s.actuate op' k') := by
  simp only [State.actuate, h]
  split
  · exact .refl _
  · next ws _ => exact runJob_sameOutputs s.draws ⟨k', ws, none⟩ k s

theorem clamp_neg (m : Nat) (v : Int) : clamp m (-v) = -clamp m v := by
  unfold clamp; omega

/-- In SINGLE_PWM a plan sees the magnitude of a speed only (R104). -/
theorem plan_apply_neg {p : Params} (hm : p.mode = .singlePwm) (c : Int) :
    plan p (.apply (-c)) = plan p (.apply c) := by
  simp [plan, hm, drivePlan, mag]

/-- Settles O31: the two commands run one plan, at whose end they commit different motions. -/
theorem singlePwmDoesNotReverse : Obligations.SinglePwmDoesNotReverse := by
  intro s t u v hm ht hu
  change t.SameOutputs u
  have hplan : plan s.params (motionOp (.setSpeed v) s) =
      plan s.params (motionOp (.setSpeed (-v)) s) := by
    simp only [motionOp, clamp_neg, plan_apply_neg hm]
  rw [exec_motion rfl] at ht hu
  rcases onCommandPort_next ht with ⟨hb, rfl⟩ | ⟨hb, rfl⟩
  · rw [onCommandPort_busy hb] at hu
    cases hu
    exact .refl _
  · rw [onCommandPort_idle hb] at hu
    cases hu
    simp only [State.whenEnabled]
    split
    · exact actuate_sameOutputs hplan _ _
    · exact .refl _

end Sys2Proof.Machine
